-- ==== Sys2Proof/Word.lean ====
section
/-! DEFINITION. The word types of the block: the byte, the 32-bit word and the four bytes of one
instruction in buffer order (spec/00_scope.md R10, spec/30_encoding.md R48). -/

namespace Sys2Proof

/-- A byte of the instruction buffer, 0 to 255 (R10). -/
abbrev Byte := BitVec 8

/-- A 32-bit value: an operand value (R15), a `current_address` or a target (R24, R33). -/
abbrev Word := BitVec 32

/-- The four bytes of one instruction in buffer order, `b[0]` (the opcode byte) to `b[3]` (R10, R48). -/
structure Bytes4 where
  b0 : Byte
  b1 : Byte
  b2 : Byte
  b3 : Byte
deriving DecidableEq, Repr

end Sys2Proof
end

