-- ==== Sys2Proof/Config.lean ====
section
/-! DEFINITION. The records the block is configured with: Catalog Entries and their fields
(spec/10_state.md R19, R20, spec/41_bitfield_decode_rules.md R100), the compatibility check
(spec/42_catalog_dispatch.md R110) and the parameters the spec has a model take as arguments
(spec/00_scope.md R8, R9, 93_implementation_defined.md U1 to U5, U14, U15). The parameters are plain
data and stand in the state, so that a statement about every state is a statement about every value of
each of them (R9). -/

namespace Sys2Proof

/-- The cpu-applicability selector of a Catalog Entry (R20, R109). -/
inductive Applicability
  | any
  | familyA
  | familyB
deriving DecidableEq, Repr

/-- A sub-family: what a family entry belongs to and what a CPU-variant string can name (R22, R109). -/
inductive Family
  | familyA
  | familyB
deriving DecidableEq, Repr

/-- The closed enumeration of exactly 20 instruction classes (R19). -/
inductive InstrClass
  | arithAdd
  | arithSub
  | arithMul
  | arithDiv
  | bitAnd
  | bitOr
  | bitXor
  | bitNor
  | compare
  | move
  | load
  | store
  | jump
  | condJump
  | indirectJump
  | call
  | indirectCall
  | ret
  | nop
  | unclassified
deriving DecidableEq, Repr

/-- The closed enumeration of exactly 19 decode rule kinds (R100). -/
inductive RuleKind
  | RRM
  | RRR
  | RI16
  | RDISP
  | DISP
  | LDST
  | ICALL
  | RRI2
  | CLZ
  | CVT6
  | RCRA
  | MAC
  | R1R3
  | RB
  | RC_I2I2
  | RA_I2I2
  | MFSR
  | MTSR
  | NONE
deriving DecidableEq, Repr

/-- A Catalog Entry: its opcode byte, applicability, mnemonic, class and rule kind (R20). -/
structure CatalogEntry where
  opcode : Byte
  app : Applicability
  mnemonic : String
  cls : InstrClass
  rule : RuleKind
deriving DecidableEq, Repr

/-- Checks of unknown form, by number, of an entry's family against the caller's variant: free values.
Nothing is known of them, so what holds for each of them holds for every check (R9, R110; DESIGN CHOICE,
notes/assumptions/5.md). -/
opaque openCompat : Nat → Family → Option String → Bool

/-- What a check answers for the variants it does not list: one answer for all of them, or what the
open check of that number answers. -/
inductive Otherwise
  | always (answer : Bool)
  | unspecified (index : Nat)
deriving DecidableEq, Repr

/-- `COMPAT` for the entries of one family, as plain data: the variants with an answer of their own (the
absent variant may be one; the first pair of a variant decides), and the answer for all others. -/
structure FamilyCheck where
  listed : List (Option String × Bool)
  otherwise : Otherwise
deriving DecidableEq, Repr

/-- `COMPAT`, one check for each family (R110). An `any` entry needs none: it is compatible with every
variant, the one constraint every instantiation must meet (R110 (a)). -/
structure Compat where
  familyA : FamilyCheck
  familyB : FamilyCheck
deriving DecidableEq, Repr

/-- `M_SEL`: the byte of the buffer and the bit of that byte which is the mode bit (R8, R78). -/
structure BitSelector where
  byte : Fin 4
  bit : Fin 8
deriving DecidableEq, Repr

/-- `NARROW_I2_RANGES`: the lowest bit of each of the two 2-bit ranges of byte 3 (R8, R95). -/
structure NarrowRanges where
  first : Fin 7
  second : Fin 7
deriving DecidableEq, Repr

/-- The two parameters the decode rules read (R8, R78, R95, R96). -/
structure Layout where
  mSel : BitSelector
  narrowI2 : NarrowRanges
deriving DecidableEq, Repr

/-- The parameters of the model (R8, R9): the contents of `opcode_dispatch_rom` (R21, R104), the
reserved no-op literal and its mnemonic (R113), the mnemonic the return-equivalent test compares with
(R126), the compatibility check (R110), `M_SEL` and `NARROW_I2_RANGES` (R78, R95), and
`VARIANT_MIN_LEN` (R112). -/
structure Params where
  catalog : List CatalogEntry
  nopLiteral : Bytes4
  nopMnemonic : String
  icallMnemonic : String
  compat : Compat
  layout : Layout
  variantMinLen : Nat
deriving DecidableEq, Repr

/-- The two error results of `decode` (R156). -/
inductive DecodeError
  | invalidInput
  | unknownOpcode
deriving DecidableEq, Repr

end Sys2Proof
end

