-- ==== Sys2Proof/Machine/Catalog.lean ====
section
/-! DEFINITION. The Catalog at reset: the contents of `opcode_dispatch_rom` and the other open
parameters. The spec leaves the Catalog, the no-op literal and the two mnemonics open
(92_eei_decisions.md D6 to D9): those values are the model's, named in notes/assumptions/1.md to 4.md.
For the others the spec names a default, taken here (D4, D5, D12, D16). No statement rests on a value
unless it says so. -/

namespace Sys2Proof

/-- "Match-by-entry-label only": an entry of a family is compatible as `a` or `b` says of its family,
whatever variant the caller gave (R110 (b)). -/
def Compat.byLabel (a b : Bool) : Compat :=
  ⟨⟨[], .always a⟩, ⟨[], .always b⟩⟩

/-- `COMPAT_GATED` with `FAMILY_OF` given by `familyOf`: an entry of a family is compatible only with a
supplied variant of that family (R110, 92_eei_decisions.md D5). -/
def Compat.gated (familyOf : List (String × Family)) : Compat :=
  ⟨check .familyA, check .familyB⟩
where
  /-- Only the variants that name the family `f` are compatible. -/
  check (f : Family) : FamilyCheck :=
    ⟨familyOf.map (fun r => (some r.1, decide (r.2 = f))), .always false⟩

end Sys2Proof

namespace Sys2Proof.Machine

/-- Rows 21 to 45 of spec/opcode_table.json (93 G4), as Catalog Entries. -/
def referenceCatalog0 : List CatalogEntry := [
  ⟨0x01, .any, "constn", .move, .RI16⟩,
  ⟨0x02, .any, "consth", .move, .RI16⟩,
  ⟨0x03, .any, "const", .move, .RI16⟩,
  ⟨0x04, .any, "mtsrim", .move, .RI16⟩,
  ⟨0x05, .familyB, "consthz", .move, .RI16⟩,
  ⟨0x06, .any, "loadl", .load, .LDST⟩,
  ⟨0x07, .any, "loadl", .load, .LDST⟩,
  ⟨0x08, .any, "clz", .unclassified, .CLZ⟩,
  ⟨0x09, .any, "clz", .unclassified, .CLZ⟩,
  ⟨0x0a, .any, "exbyte", .unclassified, .RRM⟩,
  ⟨0x0b, .any, "exbyte", .unclassified, .RRM⟩,
  ⟨0x0c, .any, "inbyte", .unclassified, .RRM⟩,
  ⟨0x0d, .any, "inbyte", .unclassified, .RRM⟩,
  ⟨0x0e, .any, "storel", .store, .LDST⟩,
  ⟨0x0f, .any, "storel", .store, .LDST⟩,
  ⟨0x10, .any, "adds", .arithAdd, .RRM⟩,
  ⟨0x11, .any, "adds", .arithAdd, .RRM⟩,
  ⟨0x12, .any, "addu", .arithAdd, .RRM⟩,
  ⟨0x13, .any, "addu", .arithAdd, .RRM⟩,
  ⟨0x14, .any, "add", .arithAdd, .RRM⟩,
  ⟨0x15, .any, "add", .arithAdd, .RRM⟩,
  ⟨0x16, .any, "load", .load, .LDST⟩,
  ⟨0x17, .any, "load", .load, .LDST⟩,
  ⟨0x18, .any, "addcs", .arithAdd, .RRM⟩,
  ⟨0x19, .any, "addcs", .arithAdd, .RRM⟩]

/-- Rows 46 to 70 of spec/opcode_table.json (93 G4), as Catalog Entries. -/
def referenceCatalog1 : List CatalogEntry := [
  ⟨0x1a, .any, "addcu", .arithAdd, .RRM⟩,
  ⟨0x1b, .any, "addcu", .arithAdd, .RRM⟩,
  ⟨0x1c, .any, "addc", .arithAdd, .RRM⟩,
  ⟨0x1d, .any, "addc", .arithAdd, .RRM⟩,
  ⟨0x1e, .any, "store", .store, .LDST⟩,
  ⟨0x1f, .any, "store", .store, .LDST⟩,
  ⟨0x20, .any, "subs", .arithSub, .RRM⟩,
  ⟨0x21, .any, "subs", .arithSub, .RRM⟩,
  ⟨0x22, .any, "subu", .arithSub, .RRM⟩,
  ⟨0x23, .any, "subu", .arithSub, .RRM⟩,
  ⟨0x24, .any, "sub", .arithSub, .RRM⟩,
  ⟨0x25, .any, "sub", .arithSub, .RRM⟩,
  ⟨0x26, .any, "loadset", .load, .LDST⟩,
  ⟨0x27, .any, "loadset", .load, .LDST⟩,
  ⟨0x28, .any, "subcs", .arithSub, .RRM⟩,
  ⟨0x29, .any, "subcs", .arithSub, .RRM⟩,
  ⟨0x2a, .any, "subcu", .arithSub, .RRM⟩,
  ⟨0x2b, .any, "subcu", .arithSub, .RRM⟩,
  ⟨0x2c, .any, "subc", .arithSub, .RRM⟩,
  ⟨0x2d, .any, "subc", .arithSub, .RRM⟩,
  ⟨0x2e, .any, "cpbyte", .compare, .RRM⟩,
  ⟨0x2f, .any, "cpbyte", .compare, .RRM⟩,
  ⟨0x30, .any, "subrs", .arithSub, .RRM⟩,
  ⟨0x31, .any, "subrs", .arithSub, .RRM⟩,
  ⟨0x32, .any, "subru", .arithSub, .RRM⟩]

/-- Rows 71 to 95 of spec/opcode_table.json (93 G4), as Catalog Entries. -/
def referenceCatalog2 : List CatalogEntry := [
  ⟨0x33, .any, "subru", .arithSub, .RRM⟩,
  ⟨0x34, .any, "subr", .arithSub, .RRM⟩,
  ⟨0x35, .any, "subr", .arithSub, .RRM⟩,
  ⟨0x36, .any, "loadm", .load, .LDST⟩,
  ⟨0x37, .any, "loadm", .load, .LDST⟩,
  ⟨0x38, .any, "subrcs", .arithSub, .RRM⟩,
  ⟨0x39, .any, "subrcs", .arithSub, .RRM⟩,
  ⟨0x3a, .any, "subrcu", .arithSub, .RRM⟩,
  ⟨0x3b, .any, "subrcu", .arithSub, .RRM⟩,
  ⟨0x3c, .any, "subrc", .arithSub, .RRM⟩,
  ⟨0x3d, .any, "subrc", .arithSub, .RRM⟩,
  ⟨0x3e, .any, "storem", .store, .LDST⟩,
  ⟨0x3f, .any, "storem", .store, .LDST⟩,
  ⟨0x40, .any, "cplt", .compare, .RRM⟩,
  ⟨0x41, .any, "cplt", .compare, .RRM⟩,
  ⟨0x42, .any, "cpltu", .compare, .RRM⟩,
  ⟨0x43, .any, "cpltu", .compare, .RRM⟩,
  ⟨0x44, .any, "cple", .compare, .RRM⟩,
  ⟨0x45, .any, "cple", .compare, .RRM⟩,
  ⟨0x46, .any, "cpleu", .compare, .RRM⟩,
  ⟨0x47, .any, "cpleu", .compare, .RRM⟩,
  ⟨0x48, .any, "cpgt", .compare, .RRM⟩,
  ⟨0x49, .any, "cpgt", .compare, .RRM⟩,
  ⟨0x4a, .any, "cpgtu", .compare, .RRM⟩,
  ⟨0x4b, .any, "cpgtu", .compare, .RRM⟩]

/-- Rows 96 to 120 of spec/opcode_table.json (93 G4), as Catalog Entries. -/
def referenceCatalog3 : List CatalogEntry := [
  ⟨0x4c, .any, "cpge", .compare, .RRM⟩,
  ⟨0x4d, .any, "cpge", .compare, .RRM⟩,
  ⟨0x4e, .any, "cpgeu", .compare, .RRM⟩,
  ⟨0x4f, .any, "cpgeu", .compare, .RRM⟩,
  ⟨0x50, .any, "aslt", .compare, .RRM⟩,
  ⟨0x51, .any, "aslt", .compare, .RRM⟩,
  ⟨0x52, .any, "asltu", .compare, .RRM⟩,
  ⟨0x53, .any, "asltu", .compare, .RRM⟩,
  ⟨0x54, .any, "asle", .compare, .RRM⟩,
  ⟨0x55, .any, "asle", .compare, .RRM⟩,
  ⟨0x56, .any, "asleu", .compare, .RRM⟩,
  ⟨0x57, .any, "asleu", .compare, .RRM⟩,
  ⟨0x58, .any, "asgt", .compare, .RRM⟩,
  ⟨0x59, .any, "asgt", .compare, .RRM⟩,
  ⟨0x5a, .any, "asgtu", .compare, .RRM⟩,
  ⟨0x5b, .any, "asgtu", .compare, .RRM⟩,
  ⟨0x5c, .any, "asge", .compare, .RRM⟩,
  ⟨0x5d, .any, "asge", .compare, .RRM⟩,
  ⟨0x5e, .any, "asgeu", .compare, .RRM⟩,
  ⟨0x5f, .any, "asgeu", .compare, .RRM⟩,
  ⟨0x60, .any, "cpeq", .compare, .RRM⟩,
  ⟨0x61, .any, "cpeq", .compare, .RRM⟩,
  ⟨0x62, .any, "cpneq", .compare, .RRM⟩,
  ⟨0x63, .any, "cpneq", .compare, .RRM⟩,
  ⟨0x64, .any, "mul", .arithMul, .RRM⟩]

/-- Rows 121 to 145 of spec/opcode_table.json (93 G4), as Catalog Entries. -/
def referenceCatalog4 : List CatalogEntry := [
  ⟨0x65, .any, "mul", .arithMul, .RRM⟩,
  ⟨0x66, .any, "mull", .arithMul, .RRM⟩,
  ⟨0x67, .any, "mull", .arithMul, .RRM⟩,
  ⟨0x68, .any, "div0", .arithDiv, .RRM⟩,
  ⟨0x69, .any, "div0", .arithDiv, .RRM⟩,
  ⟨0x6a, .any, "div", .arithDiv, .RRM⟩,
  ⟨0x6b, .any, "div", .arithDiv, .RRM⟩,
  ⟨0x6c, .any, "divl", .arithDiv, .RRM⟩,
  ⟨0x6d, .any, "divl", .arithDiv, .RRM⟩,
  ⟨0x6e, .any, "divrem", .arithDiv, .RRM⟩,
  ⟨0x6f, .any, "divrem", .arithDiv, .RRM⟩,
  ⟨0x70, .any, "aseq", .compare, .RRM⟩,
  ⟨0x71, .any, "aseq", .compare, .RRM⟩,
  ⟨0x72, .any, "asneq", .compare, .RRM⟩,
  ⟨0x73, .any, "asneq", .compare, .RRM⟩,
  ⟨0x74, .any, "mulu", .arithMul, .RRM⟩,
  ⟨0x75, .any, "mulu", .arithMul, .RRM⟩,
  ⟨0x78, .any, "inhw", .unclassified, .RRM⟩,
  ⟨0x79, .any, "inhw", .unclassified, .RRM⟩,
  ⟨0x7a, .any, "extract", .unclassified, .RRM⟩,
  ⟨0x7b, .any, "extract", .unclassified, .RRM⟩,
  ⟨0x7c, .any, "exhw", .unclassified, .RRM⟩,
  ⟨0x7d, .any, "exhw", .unclassified, .RRM⟩,
  ⟨0x7e, .any, "exhws", .unclassified, .RCRA⟩,
  ⟨0x80, .any, "sll", .unclassified, .RRM⟩]

/-- Rows 146 to 170 of spec/opcode_table.json (93 G4), as Catalog Entries. -/
def referenceCatalog5 : List CatalogEntry := [
  ⟨0x81, .any, "sll", .unclassified, .RRM⟩,
  ⟨0x82, .any, "srl", .unclassified, .RRM⟩,
  ⟨0x83, .any, "srl", .unclassified, .RRM⟩,
  ⟨0x86, .any, "sra", .unclassified, .RRM⟩,
  ⟨0x87, .any, "sra", .unclassified, .RRM⟩,
  ⟨0x88, .any, "iret", .ret, .NONE⟩,
  ⟨0x89, .any, "halt", .unclassified, .NONE⟩,
  ⟨0x8c, .any, "iretinv", .ret, .NONE⟩,
  ⟨0x90, .any, "and", .bitAnd, .RRM⟩,
  ⟨0x91, .any, "and", .bitAnd, .RRM⟩,
  ⟨0x92, .any, "or", .bitOr, .RRM⟩,
  ⟨0x93, .any, "or", .bitOr, .RRM⟩,
  ⟨0x94, .any, "xor", .bitXor, .RRM⟩,
  ⟨0x95, .any, "xor", .bitXor, .RRM⟩,
  ⟨0x96, .any, "xnor", .bitXor, .RRM⟩,
  ⟨0x97, .any, "xnor", .bitXor, .RRM⟩,
  ⟨0x98, .any, "nor", .bitNor, .RRM⟩,
  ⟨0x99, .any, "nor", .bitNor, .RRM⟩,
  ⟨0x9a, .any, "nand", .bitAnd, .RRM⟩,
  ⟨0x9b, .any, "nand", .bitAnd, .RRM⟩,
  ⟨0x9c, .any, "andn", .bitAnd, .RRM⟩,
  ⟨0x9d, .any, "andn", .bitAnd, .RRM⟩,
  ⟨0x9e, .any, "setip", .unclassified, .RRR⟩,
  ⟨0x9f, .any, "inv", .unclassified, .NONE⟩,
  ⟨0xa0, .any, "jmp", .jump, .DISP⟩]

/-- Rows 171 to 195 of spec/opcode_table.json (93 G4), as Catalog Entries. -/
def referenceCatalog6 : List CatalogEntry := [
  ⟨0xa1, .any, "jmp", .jump, .DISP⟩,
  ⟨0xa4, .any, "jmpf", .condJump, .RDISP⟩,
  ⟨0xa5, .any, "jmpf", .condJump, .RDISP⟩,
  ⟨0xa8, .any, "call", .call, .RDISP⟩,
  ⟨0xa9, .any, "call", .call, .RDISP⟩,
  ⟨0xaa, .familyB, "orn", .bitOr, .RRM⟩,
  ⟨0xab, .familyB, "orn", .bitOr, .RRM⟩,
  ⟨0xac, .any, "jmpt", .condJump, .RDISP⟩,
  ⟨0xad, .any, "jmpt", .condJump, .RDISP⟩,
  ⟨0xb4, .any, "jmpfdec", .condJump, .RDISP⟩,
  ⟨0xb5, .any, "jmpfdec", .condJump, .RDISP⟩,
  ⟨0xb6, .any, "mftlb", .move, .RCRA⟩,
  ⟨0xbe, .any, "mttlb", .move, .ICALL⟩,
  ⟨0xc0, .any, "jmpi", .indirectJump, .RB⟩,
  ⟨0xc4, .any, "jmpfi", .condJump, .ICALL⟩,
  ⟨0xc6, .any, "mfsr", .move, .MFSR⟩,
  ⟨0xc8, .any, "calli", .indirectCall, .ICALL⟩,
  ⟨0xcc, .any, "jmpti", .condJump, .ICALL⟩,
  ⟨0xce, .any, "mtsr", .move, .MTSR⟩,
  ⟨0xd7, .any, "emulate", .unclassified, .RRR⟩,
  ⟨0xd8, .familyB, "fmac", .arithMul, .MAC⟩,
  ⟨0xd9, .familyB, "dmac", .arithMul, .MAC⟩,
  ⟨0xda, .familyB, "fmsm", .arithMul, .MAC⟩,
  ⟨0xdb, .familyB, "dmsm", .arithMul, .MAC⟩,
  ⟨0xde, .any, "multm", .arithMul, .RRR⟩]

/-- Rows 196 to 220 of spec/opcode_table.json (93 G4), as Catalog Entries. -/
def referenceCatalog7 : List CatalogEntry := [
  ⟨0xdf, .any, "multmu", .arithMul, .RRR⟩,
  ⟨0xe0, .any, "multiply", .arithMul, .RRR⟩,
  ⟨0xe1, .any, "divide", .arithDiv, .RRR⟩,
  ⟨0xe2, .any, "multiplu", .arithMul, .RRR⟩,
  ⟨0xe3, .any, "dividu", .arithDiv, .RRR⟩,
  ⟨0xe4, .any, "convert", .unclassified, .CVT6⟩,
  ⟨0xe5, .any, "sqrt", .unclassified, .RRI2⟩,
  ⟨0xe6, .any, "class", .unclassified, .RRI2⟩,
  ⟨0xe8, .familyB, "mtacc", .move, .RA_I2I2⟩,
  ⟨0xe9, .familyB, "mfacc", .move, .RC_I2I2⟩,
  ⟨0xea, .any, "feq", .compare, .RRR⟩,
  ⟨0xeb, .any, "deq", .compare, .RRR⟩,
  ⟨0xec, .any, "fgt", .compare, .RRR⟩,
  ⟨0xed, .any, "dgt", .compare, .RRR⟩,
  ⟨0xee, .any, "fge", .compare, .RRR⟩,
  ⟨0xef, .any, "dge", .compare, .RRR⟩,
  ⟨0xf0, .any, "fadd", .arithAdd, .RRR⟩,
  ⟨0xf1, .any, "dadd", .arithAdd, .RRR⟩,
  ⟨0xf2, .any, "fsub", .arithSub, .RRR⟩,
  ⟨0xf3, .any, "dsub", .arithSub, .RRR⟩,
  ⟨0xf4, .any, "fmul", .arithMul, .RRR⟩,
  ⟨0xf5, .any, "dmul", .arithMul, .RRR⟩,
  ⟨0xf6, .any, "fdiv", .arithDiv, .RRR⟩,
  ⟨0xf7, .any, "ddiv", .arithDiv, .RRR⟩,
  ⟨0xf9, .any, "fdmul", .arithMul, .RRR⟩]

/-- The reference instantiation of the Catalog in ascending opcode order, rows 21 to 220 of
spec/opcode_table.json (30_encoding.md R52 (d), R59). PRESUMED, see notes/assumptions/1.md. -/
def referenceCatalog : List CatalogEntry :=
  referenceCatalog0 ++ referenceCatalog1 ++ referenceCatalog2 ++ referenceCatalog3 ++ referenceCatalog4 ++ referenceCatalog5 ++ referenceCatalog6 ++ referenceCatalog7

/-- The attested entry (R108): opcode 0x14, kind RRM. The source gives its mnemonic, class and
applicability nowhere; the values here are DESIGN CHOICES, see notes/assumptions/2.md. -/
def attestedEntry : CatalogEntry :=
  ⟨0x14, .any, "add", .unclassified, .RRM⟩

/-- The spec's defaults: `M_SEL` = (1, 0), bit 0 of byte 1 (R78, 92_eei_decisions.md D4), and
`NARROW_I2_RANGES` = bits 3 to 2 then bits 1 to 0 (R95, 92_eei_decisions.md D12). -/
def specLayout : Layout :=
  ⟨⟨1, 0⟩, ⟨2, 0⟩⟩

/-- The parameters at reset: the attested entry first, then the reference Catalog; the no-op literal
and the two mnemonics of 93 G5 (PRESUMED and DESIGN CHOICE, see notes/assumptions/1.md to 4.md); the
spec's default `COMPAT`, true for every entry (R110), layout and `VARIANT_MIN_LEN` (R8). -/
def resetParams : Params where
  catalog := attestedEntry :: referenceCatalog
  nopLiteral := ⟨0x70, 0x40, 0x01, 0x01⟩
  nopMnemonic := "nop"
  icallMnemonic := "calli"
  compat := .byLabel true true
  layout := specLayout
  variantMinLen := 5

end Sys2Proof.Machine
end

