-- ==== Sys2Proof/Syntax.lean ====
section
/-! DEFINITION. The instructions: one constructor for each of the 221 rows of spec/opcode_table.json,
in the table's order. Row 0 is the attested entry (spec/42_catalog_dispatch.md R108), row 1 the no-op
literal (R113), rows 2 to 20 a Catalog Entry of each of the 19 rule kinds (spec/30_encoding.md R49,
R52), rows 21 to 220 the entries of the reference instantiation of the Catalog (93 G4). Every
constructor that stands for a word keeps the three operand bytes whole, ignored bits included: which
bits are read is the decode rule's matter (spec/41_bitfield_decode_rules.md R77), not the decoder's. -/

namespace Sys2Proof

/-- A Catalog Entry less its rule kind: what a Catalog supplies to a row of the table that fixes only
the kind (R52 (c)). -/
structure EntryHead where
  opcode : Byte
  app : Applicability
  mnemonic : String
  cls : InstrClass
deriving DecidableEq, Repr

/-- The Catalog Entry with this head and rule kind `k`. -/
def EntryHead.withRule (h : EntryHead) (k : RuleKind) : CatalogEntry :=
  ⟨h.opcode, h.app, h.mnemonic, h.cls, k⟩

/-- The head of a Catalog Entry. -/
def CatalogEntry.head (e : CatalogEntry) : EntryHead :=
  ⟨e.opcode, e.app, e.mnemonic, e.cls⟩

/-- An instruction word as the dispatcher selects it: a row of the opcode table and the operand bytes. -/
inductive Instr
  /-- row 0: the attested entry, opcode 0x14 of kind RRM, its other three fields as the Catalog has them (R108) -/
  | attested_14 (app : Applicability) (mnemonic : String) (cls : InstrClass) (b1 b2 b3 : Byte)
  /-- row 1: the reserved no-op literal (R113) -/
  | nopLiteral
  /-- row 2: a word of any Catalog Entry of kind RRM -/
  | anyRRM (e : EntryHead) (b1 b2 b3 : Byte)
  /-- row 3: a word of any Catalog Entry of kind RRR -/
  | anyRRR (e : EntryHead) (b1 b2 b3 : Byte)
  /-- row 4: a word of any Catalog Entry of kind RI16 -/
  | anyRI16 (e : EntryHead) (b1 b2 b3 : Byte)
  /-- row 5: a word of any Catalog Entry of kind RDISP -/
  | anyRDISP (e : EntryHead) (b1 b2 b3 : Byte)
  /-- row 6: a word of any Catalog Entry of kind DISP -/
  | anyDISP (e : EntryHead) (b1 b2 b3 : Byte)
  /-- row 7: a word of any Catalog Entry of kind LDST -/
  | anyLDST (e : EntryHead) (b1 b2 b3 : Byte)
  /-- row 8: a word of any Catalog Entry of kind ICALL -/
  | anyICALL (e : EntryHead) (b1 b2 b3 : Byte)
  /-- row 9: a word of any Catalog Entry of kind RRI2 -/
  | anyRRI2 (e : EntryHead) (b1 b2 b3 : Byte)
  /-- row 10: a word of any Catalog Entry of kind CLZ -/
  | anyCLZ (e : EntryHead) (b1 b2 b3 : Byte)
  /-- row 11: a word of any Catalog Entry of kind CVT6 -/
  | anyCVT6 (e : EntryHead) (b1 b2 b3 : Byte)
  /-- row 12: a word of any Catalog Entry of kind RCRA -/
  | anyRCRA (e : EntryHead) (b1 b2 b3 : Byte)
  /-- row 13: a word of any Catalog Entry of kind MAC -/
  | anyMAC (e : EntryHead) (b1 b2 b3 : Byte)
  /-- row 14: a word of any Catalog Entry of kind R1R3 -/
  | anyR1R3 (e : EntryHead) (b1 b2 b3 : Byte)
  /-- row 15: a word of any Catalog Entry of kind RB -/
  | anyRB (e : EntryHead) (b1 b2 b3 : Byte)
  /-- row 16: a word of any Catalog Entry of kind RC_I2I2 -/
  | anyRC_I2I2 (e : EntryHead) (b1 b2 b3 : Byte)
  /-- row 17: a word of any Catalog Entry of kind RA_I2I2 -/
  | anyRA_I2I2 (e : EntryHead) (b1 b2 b3 : Byte)
  /-- row 18: a word of any Catalog Entry of kind MFSR -/
  | anyMFSR (e : EntryHead) (b1 b2 b3 : Byte)
  /-- row 19: a word of any Catalog Entry of kind MTSR -/
  | anyMTSR (e : EntryHead) (b1 b2 b3 : Byte)
  /-- row 20: a word of any Catalog Entry of kind NONE -/
  | anyNONE (e : EntryHead) (b1 b2 b3 : Byte)
  /-- row 21: constn, opcode 0x01, kind RI16 -/
  | constn_01 (b1 b2 b3 : Byte)
  /-- row 22: consth, opcode 0x02, kind RI16 -/
  | consth_02 (b1 b2 b3 : Byte)
  /-- row 23: const, opcode 0x03, kind RI16 -/
  | const_03 (b1 b2 b3 : Byte)
  /-- row 24: mtsrim, opcode 0x04, kind RI16 -/
  | mtsrim_04 (b1 b2 b3 : Byte)
  /-- row 25: consthz, opcode 0x05, kind RI16 -/
  | consthz_05 (b1 b2 b3 : Byte)
  /-- row 26: loadl, opcode 0x06, kind LDST -/
  | loadl_06 (b1 b2 b3 : Byte)
  /-- row 27: loadl, opcode 0x07, kind LDST -/
  | loadl_07 (b1 b2 b3 : Byte)
  /-- row 28: clz, opcode 0x08, kind CLZ -/
  | clz_08 (b1 b2 b3 : Byte)
  /-- row 29: clz, opcode 0x09, kind CLZ -/
  | clz_09 (b1 b2 b3 : Byte)
  /-- row 30: exbyte, opcode 0x0a, kind RRM -/
  | exbyte_0a (b1 b2 b3 : Byte)
  /-- row 31: exbyte, opcode 0x0b, kind RRM -/
  | exbyte_0b (b1 b2 b3 : Byte)
  /-- row 32: inbyte, opcode 0x0c, kind RRM -/
  | inbyte_0c (b1 b2 b3 : Byte)
  /-- row 33: inbyte, opcode 0x0d, kind RRM -/
  | inbyte_0d (b1 b2 b3 : Byte)
  /-- row 34: storel, opcode 0x0e, kind LDST -/
  | storel_0e (b1 b2 b3 : Byte)
  /-- row 35: storel, opcode 0x0f, kind LDST -/
  | storel_0f (b1 b2 b3 : Byte)
  /-- row 36: adds, opcode 0x10, kind RRM -/
  | adds_10 (b1 b2 b3 : Byte)
  /-- row 37: adds, opcode 0x11, kind RRM -/
  | adds_11 (b1 b2 b3 : Byte)
  /-- row 38: addu, opcode 0x12, kind RRM -/
  | addu_12 (b1 b2 b3 : Byte)
  /-- row 39: addu, opcode 0x13, kind RRM -/
  | addu_13 (b1 b2 b3 : Byte)
  /-- row 40: add, opcode 0x14, kind RRM -/
  | add_14 (b1 b2 b3 : Byte)
  /-- row 41: add, opcode 0x15, kind RRM -/
  | add_15 (b1 b2 b3 : Byte)
  /-- row 42: load, opcode 0x16, kind LDST -/
  | load_16 (b1 b2 b3 : Byte)
  /-- row 43: load, opcode 0x17, kind LDST -/
  | load_17 (b1 b2 b3 : Byte)
  /-- row 44: addcs, opcode 0x18, kind RRM -/
  | addcs_18 (b1 b2 b3 : Byte)
  /-- row 45: addcs, opcode 0x19, kind RRM -/
  | addcs_19 (b1 b2 b3 : Byte)
  /-- row 46: addcu, opcode 0x1a, kind RRM -/
  | addcu_1a (b1 b2 b3 : Byte)
  /-- row 47: addcu, opcode 0x1b, kind RRM -/
  | addcu_1b (b1 b2 b3 : Byte)
  /-- row 48: addc, opcode 0x1c, kind RRM -/
  | addc_1c (b1 b2 b3 : Byte)
  /-- row 49: addc, opcode 0x1d, kind RRM -/
  | addc_1d (b1 b2 b3 : Byte)
  /-- row 50: store, opcode 0x1e, kind LDST -/
  | store_1e (b1 b2 b3 : Byte)
  /-- row 51: store, opcode 0x1f, kind LDST -/
  | store_1f (b1 b2 b3 : Byte)
  /-- row 52: subs, opcode 0x20, kind RRM -/
  | subs_20 (b1 b2 b3 : Byte)
  /-- row 53: subs, opcode 0x21, kind RRM -/
  | subs_21 (b1 b2 b3 : Byte)
  /-- row 54: subu, opcode 0x22, kind RRM -/
  | subu_22 (b1 b2 b3 : Byte)
  /-- row 55: subu, opcode 0x23, kind RRM -/
  | subu_23 (b1 b2 b3 : Byte)
  /-- row 56: sub, opcode 0x24, kind RRM -/
  | sub_24 (b1 b2 b3 : Byte)
  /-- row 57: sub, opcode 0x25, kind RRM -/
  | sub_25 (b1 b2 b3 : Byte)
  /-- row 58: loadset, opcode 0x26, kind LDST -/
  | loadset_26 (b1 b2 b3 : Byte)
  /-- row 59: loadset, opcode 0x27, kind LDST -/
  | loadset_27 (b1 b2 b3 : Byte)
  /-- row 60: subcs, opcode 0x28, kind RRM -/
  | subcs_28 (b1 b2 b3 : Byte)
  /-- row 61: subcs, opcode 0x29, kind RRM -/
  | subcs_29 (b1 b2 b3 : Byte)
  /-- row 62: subcu, opcode 0x2a, kind RRM -/
  | subcu_2a (b1 b2 b3 : Byte)
  /-- row 63: subcu, opcode 0x2b, kind RRM -/
  | subcu_2b (b1 b2 b3 : Byte)
  /-- row 64: subc, opcode 0x2c, kind RRM -/
  | subc_2c (b1 b2 b3 : Byte)
  /-- row 65: subc, opcode 0x2d, kind RRM -/
  | subc_2d (b1 b2 b3 : Byte)
  /-- row 66: cpbyte, opcode 0x2e, kind RRM -/
  | cpbyte_2e (b1 b2 b3 : Byte)
  /-- row 67: cpbyte, opcode 0x2f, kind RRM -/
  | cpbyte_2f (b1 b2 b3 : Byte)
  /-- row 68: subrs, opcode 0x30, kind RRM -/
  | subrs_30 (b1 b2 b3 : Byte)
  /-- row 69: subrs, opcode 0x31, kind RRM -/
  | subrs_31 (b1 b2 b3 : Byte)
  /-- row 70: subru, opcode 0x32, kind RRM -/
  | subru_32 (b1 b2 b3 : Byte)
  /-- row 71: subru, opcode 0x33, kind RRM -/
  | subru_33 (b1 b2 b3 : Byte)
  /-- row 72: subr, opcode 0x34, kind RRM -/
  | subr_34 (b1 b2 b3 : Byte)
  /-- row 73: subr, opcode 0x35, kind RRM -/
  | subr_35 (b1 b2 b3 : Byte)
  /-- row 74: loadm, opcode 0x36, kind LDST -/
  | loadm_36 (b1 b2 b3 : Byte)
  /-- row 75: loadm, opcode 0x37, kind LDST -/
  | loadm_37 (b1 b2 b3 : Byte)
  /-- row 76: subrcs, opcode 0x38, kind RRM -/
  | subrcs_38 (b1 b2 b3 : Byte)
  /-- row 77: subrcs, opcode 0x39, kind RRM -/
  | subrcs_39 (b1 b2 b3 : Byte)
  /-- row 78: subrcu, opcode 0x3a, kind RRM -/
  | subrcu_3a (b1 b2 b3 : Byte)
  /-- row 79: subrcu, opcode 0x3b, kind RRM -/
  | subrcu_3b (b1 b2 b3 : Byte)
  /-- row 80: subrc, opcode 0x3c, kind RRM -/
  | subrc_3c (b1 b2 b3 : Byte)
  /-- row 81: subrc, opcode 0x3d, kind RRM -/
  | subrc_3d (b1 b2 b3 : Byte)
  /-- row 82: storem, opcode 0x3e, kind LDST -/
  | storem_3e (b1 b2 b3 : Byte)
  /-- row 83: storem, opcode 0x3f, kind LDST -/
  | storem_3f (b1 b2 b3 : Byte)
  /-- row 84: cplt, opcode 0x40, kind RRM -/
  | cplt_40 (b1 b2 b3 : Byte)
  /-- row 85: cplt, opcode 0x41, kind RRM -/
  | cplt_41 (b1 b2 b3 : Byte)
  /-- row 86: cpltu, opcode 0x42, kind RRM -/
  | cpltu_42 (b1 b2 b3 : Byte)
  /-- row 87: cpltu, opcode 0x43, kind RRM -/
  | cpltu_43 (b1 b2 b3 : Byte)
  /-- row 88: cple, opcode 0x44, kind RRM -/
  | cple_44 (b1 b2 b3 : Byte)
  /-- row 89: cple, opcode 0x45, kind RRM -/
  | cple_45 (b1 b2 b3 : Byte)
  /-- row 90: cpleu, opcode 0x46, kind RRM -/
  | cpleu_46 (b1 b2 b3 : Byte)
  /-- row 91: cpleu, opcode 0x47, kind RRM -/
  | cpleu_47 (b1 b2 b3 : Byte)
  /-- row 92: cpgt, opcode 0x48, kind RRM -/
  | cpgt_48 (b1 b2 b3 : Byte)
  /-- row 93: cpgt, opcode 0x49, kind RRM -/
  | cpgt_49 (b1 b2 b3 : Byte)
  /-- row 94: cpgtu, opcode 0x4a, kind RRM -/
  | cpgtu_4a (b1 b2 b3 : Byte)
  /-- row 95: cpgtu, opcode 0x4b, kind RRM -/
  | cpgtu_4b (b1 b2 b3 : Byte)
  /-- row 96: cpge, opcode 0x4c, kind RRM -/
  | cpge_4c (b1 b2 b3 : Byte)
  /-- row 97: cpge, opcode 0x4d, kind RRM -/
  | cpge_4d (b1 b2 b3 : Byte)
  /-- row 98: cpgeu, opcode 0x4e, kind RRM -/
  | cpgeu_4e (b1 b2 b3 : Byte)
  /-- row 99: cpgeu, opcode 0x4f, kind RRM -/
  | cpgeu_4f (b1 b2 b3 : Byte)
  /-- row 100: aslt, opcode 0x50, kind RRM -/
  | aslt_50 (b1 b2 b3 : Byte)
  /-- row 101: aslt, opcode 0x51, kind RRM -/
  | aslt_51 (b1 b2 b3 : Byte)
  /-- row 102: asltu, opcode 0x52, kind RRM -/
  | asltu_52 (b1 b2 b3 : Byte)
  /-- row 103: asltu, opcode 0x53, kind RRM -/
  | asltu_53 (b1 b2 b3 : Byte)
  /-- row 104: asle, opcode 0x54, kind RRM -/
  | asle_54 (b1 b2 b3 : Byte)
  /-- row 105: asle, opcode 0x55, kind RRM -/
  | asle_55 (b1 b2 b3 : Byte)
  /-- row 106: asleu, opcode 0x56, kind RRM -/
  | asleu_56 (b1 b2 b3 : Byte)
  /-- row 107: asleu, opcode 0x57, kind RRM -/
  | asleu_57 (b1 b2 b3 : Byte)
  /-- row 108: asgt, opcode 0x58, kind RRM -/
  | asgt_58 (b1 b2 b3 : Byte)
  /-- row 109: asgt, opcode 0x59, kind RRM -/
  | asgt_59 (b1 b2 b3 : Byte)
  /-- row 110: asgtu, opcode 0x5a, kind RRM -/
  | asgtu_5a (b1 b2 b3 : Byte)
  /-- row 111: asgtu, opcode 0x5b, kind RRM -/
  | asgtu_5b (b1 b2 b3 : Byte)
  /-- row 112: asge, opcode 0x5c, kind RRM -/
  | asge_5c (b1 b2 b3 : Byte)
  /-- row 113: asge, opcode 0x5d, kind RRM -/
  | asge_5d (b1 b2 b3 : Byte)
  /-- row 114: asgeu, opcode 0x5e, kind RRM -/
  | asgeu_5e (b1 b2 b3 : Byte)
  /-- row 115: asgeu, opcode 0x5f, kind RRM -/
  | asgeu_5f (b1 b2 b3 : Byte)
  /-- row 116: cpeq, opcode 0x60, kind RRM -/
  | cpeq_60 (b1 b2 b3 : Byte)
  /-- row 117: cpeq, opcode 0x61, kind RRM -/
  | cpeq_61 (b1 b2 b3 : Byte)
  /-- row 118: cpneq, opcode 0x62, kind RRM -/
  | cpneq_62 (b1 b2 b3 : Byte)
  /-- row 119: cpneq, opcode 0x63, kind RRM -/
  | cpneq_63 (b1 b2 b3 : Byte)
  /-- row 120: mul, opcode 0x64, kind RRM -/
  | mul_64 (b1 b2 b3 : Byte)
  /-- row 121: mul, opcode 0x65, kind RRM -/
  | mul_65 (b1 b2 b3 : Byte)
  /-- row 122: mull, opcode 0x66, kind RRM -/
  | mull_66 (b1 b2 b3 : Byte)
  /-- row 123: mull, opcode 0x67, kind RRM -/
  | mull_67 (b1 b2 b3 : Byte)
  /-- row 124: div0, opcode 0x68, kind RRM -/
  | div0_68 (b1 b2 b3 : Byte)
  /-- row 125: div0, opcode 0x69, kind RRM -/
  | div0_69 (b1 b2 b3 : Byte)
  /-- row 126: div, opcode 0x6a, kind RRM -/
  | div_6a (b1 b2 b3 : Byte)
  /-- row 127: div, opcode 0x6b, kind RRM -/
  | div_6b (b1 b2 b3 : Byte)
  /-- row 128: divl, opcode 0x6c, kind RRM -/
  | divl_6c (b1 b2 b3 : Byte)
  /-- row 129: divl, opcode 0x6d, kind RRM -/
  | divl_6d (b1 b2 b3 : Byte)
  /-- row 130: divrem, opcode 0x6e, kind RRM -/
  | divrem_6e (b1 b2 b3 : Byte)
  /-- row 131: divrem, opcode 0x6f, kind RRM -/
  | divrem_6f (b1 b2 b3 : Byte)
  /-- row 132: aseq, opcode 0x70, kind RRM -/
  | aseq_70 (b1 b2 b3 : Byte)
  /-- row 133: aseq, opcode 0x71, kind RRM -/
  | aseq_71 (b1 b2 b3 : Byte)
  /-- row 134: asneq, opcode 0x72, kind RRM -/
  | asneq_72 (b1 b2 b3 : Byte)
  /-- row 135: asneq, opcode 0x73, kind RRM -/
  | asneq_73 (b1 b2 b3 : Byte)
  /-- row 136: mulu, opcode 0x74, kind RRM -/
  | mulu_74 (b1 b2 b3 : Byte)
  /-- row 137: mulu, opcode 0x75, kind RRM -/
  | mulu_75 (b1 b2 b3 : Byte)
  /-- row 138: inhw, opcode 0x78, kind RRM -/
  | inhw_78 (b1 b2 b3 : Byte)
  /-- row 139: inhw, opcode 0x79, kind RRM -/
  | inhw_79 (b1 b2 b3 : Byte)
  /-- row 140: extract, opcode 0x7a, kind RRM -/
  | extract_7a (b1 b2 b3 : Byte)
  /-- row 141: extract, opcode 0x7b, kind RRM -/
  | extract_7b (b1 b2 b3 : Byte)
  /-- row 142: exhw, opcode 0x7c, kind RRM -/
  | exhw_7c (b1 b2 b3 : Byte)
  /-- row 143: exhw, opcode 0x7d, kind RRM -/
  | exhw_7d (b1 b2 b3 : Byte)
  /-- row 144: exhws, opcode 0x7e, kind RCRA -/
  | exhws_7e (b1 b2 b3 : Byte)
  /-- row 145: sll, opcode 0x80, kind RRM -/
  | sll_80 (b1 b2 b3 : Byte)
  /-- row 146: sll, opcode 0x81, kind RRM -/
  | sll_81 (b1 b2 b3 : Byte)
  /-- row 147: srl, opcode 0x82, kind RRM -/
  | srl_82 (b1 b2 b3 : Byte)
  /-- row 148: srl, opcode 0x83, kind RRM -/
  | srl_83 (b1 b2 b3 : Byte)
  /-- row 149: sra, opcode 0x86, kind RRM -/
  | sra_86 (b1 b2 b3 : Byte)
  /-- row 150: sra, opcode 0x87, kind RRM -/
  | sra_87 (b1 b2 b3 : Byte)
  /-- row 151: iret, opcode 0x88, kind NONE -/
  | iret_88 (b1 b2 b3 : Byte)
  /-- row 152: halt, opcode 0x89, kind NONE -/
  | halt_89 (b1 b2 b3 : Byte)
  /-- row 153: iretinv, opcode 0x8c, kind NONE -/
  | iretinv_8c (b1 b2 b3 : Byte)
  /-- row 154: and, opcode 0x90, kind RRM -/
  | and_90 (b1 b2 b3 : Byte)
  /-- row 155: and, opcode 0x91, kind RRM -/
  | and_91 (b1 b2 b3 : Byte)
  /-- row 156: or, opcode 0x92, kind RRM -/
  | or_92 (b1 b2 b3 : Byte)
  /-- row 157: or, opcode 0x93, kind RRM -/
  | or_93 (b1 b2 b3 : Byte)
  /-- row 158: xor, opcode 0x94, kind RRM -/
  | xor_94 (b1 b2 b3 : Byte)
  /-- row 159: xor, opcode 0x95, kind RRM -/
  | xor_95 (b1 b2 b3 : Byte)
  /-- row 160: xnor, opcode 0x96, kind RRM -/
  | xnor_96 (b1 b2 b3 : Byte)
  /-- row 161: xnor, opcode 0x97, kind RRM -/
  | xnor_97 (b1 b2 b3 : Byte)
  /-- row 162: nor, opcode 0x98, kind RRM -/
  | nor_98 (b1 b2 b3 : Byte)
  /-- row 163: nor, opcode 0x99, kind RRM -/
  | nor_99 (b1 b2 b3 : Byte)
  /-- row 164: nand, opcode 0x9a, kind RRM -/
  | nand_9a (b1 b2 b3 : Byte)
  /-- row 165: nand, opcode 0x9b, kind RRM -/
  | nand_9b (b1 b2 b3 : Byte)
  /-- row 166: andn, opcode 0x9c, kind RRM -/
  | andn_9c (b1 b2 b3 : Byte)
  /-- row 167: andn, opcode 0x9d, kind RRM -/
  | andn_9d (b1 b2 b3 : Byte)
  /-- row 168: setip, opcode 0x9e, kind RRR -/
  | setip_9e (b1 b2 b3 : Byte)
  /-- row 169: inv, opcode 0x9f, kind NONE -/
  | inv_9f (b1 b2 b3 : Byte)
  /-- row 170: jmp, opcode 0xa0, kind DISP -/
  | jmp_a0 (b1 b2 b3 : Byte)
  /-- row 171: jmp, opcode 0xa1, kind DISP -/
  | jmp_a1 (b1 b2 b3 : Byte)
  /-- row 172: jmpf, opcode 0xa4, kind RDISP -/
  | jmpf_a4 (b1 b2 b3 : Byte)
  /-- row 173: jmpf, opcode 0xa5, kind RDISP -/
  | jmpf_a5 (b1 b2 b3 : Byte)
  /-- row 174: call, opcode 0xa8, kind RDISP -/
  | call_a8 (b1 b2 b3 : Byte)
  /-- row 175: call, opcode 0xa9, kind RDISP -/
  | call_a9 (b1 b2 b3 : Byte)
  /-- row 176: orn, opcode 0xaa, kind RRM -/
  | orn_aa (b1 b2 b3 : Byte)
  /-- row 177: orn, opcode 0xab, kind RRM -/
  | orn_ab (b1 b2 b3 : Byte)
  /-- row 178: jmpt, opcode 0xac, kind RDISP -/
  | jmpt_ac (b1 b2 b3 : Byte)
  /-- row 179: jmpt, opcode 0xad, kind RDISP -/
  | jmpt_ad (b1 b2 b3 : Byte)
  /-- row 180: jmpfdec, opcode 0xb4, kind RDISP -/
  | jmpfdec_b4 (b1 b2 b3 : Byte)
  /-- row 181: jmpfdec, opcode 0xb5, kind RDISP -/
  | jmpfdec_b5 (b1 b2 b3 : Byte)
  /-- row 182: mftlb, opcode 0xb6, kind RCRA -/
  | mftlb_b6 (b1 b2 b3 : Byte)
  /-- row 183: mttlb, opcode 0xbe, kind ICALL -/
  | mttlb_be (b1 b2 b3 : Byte)
  /-- row 184: jmpi, opcode 0xc0, kind RB -/
  | jmpi_c0 (b1 b2 b3 : Byte)
  /-- row 185: jmpfi, opcode 0xc4, kind ICALL -/
  | jmpfi_c4 (b1 b2 b3 : Byte)
  /-- row 186: mfsr, opcode 0xc6, kind MFSR -/
  | mfsr_c6 (b1 b2 b3 : Byte)
  /-- row 187: calli, opcode 0xc8, kind ICALL -/
  | calli_c8 (b1 b2 b3 : Byte)
  /-- row 188: jmpti, opcode 0xcc, kind ICALL -/
  | jmpti_cc (b1 b2 b3 : Byte)
  /-- row 189: mtsr, opcode 0xce, kind MTSR -/
  | mtsr_ce (b1 b2 b3 : Byte)
  /-- row 190: emulate, opcode 0xd7, kind RRR -/
  | emulate_d7 (b1 b2 b3 : Byte)
  /-- row 191: fmac, opcode 0xd8, kind MAC -/
  | fmac_d8 (b1 b2 b3 : Byte)
  /-- row 192: dmac, opcode 0xd9, kind MAC -/
  | dmac_d9 (b1 b2 b3 : Byte)
  /-- row 193: fmsm, opcode 0xda, kind MAC -/
  | fmsm_da (b1 b2 b3 : Byte)
  /-- row 194: dmsm, opcode 0xdb, kind MAC -/
  | dmsm_db (b1 b2 b3 : Byte)
  /-- row 195: multm, opcode 0xde, kind RRR -/
  | multm_de (b1 b2 b3 : Byte)
  /-- row 196: multmu, opcode 0xdf, kind RRR -/
  | multmu_df (b1 b2 b3 : Byte)
  /-- row 197: multiply, opcode 0xe0, kind RRR -/
  | multiply_e0 (b1 b2 b3 : Byte)
  /-- row 198: divide, opcode 0xe1, kind RRR -/
  | divide_e1 (b1 b2 b3 : Byte)
  /-- row 199: multiplu, opcode 0xe2, kind RRR -/
  | multiplu_e2 (b1 b2 b3 : Byte)
  /-- row 200: dividu, opcode 0xe3, kind RRR -/
  | dividu_e3 (b1 b2 b3 : Byte)
  /-- row 201: convert, opcode 0xe4, kind CVT6 -/
  | convert_e4 (b1 b2 b3 : Byte)
  /-- row 202: sqrt, opcode 0xe5, kind RRI2 -/
  | sqrt_e5 (b1 b2 b3 : Byte)
  /-- row 203: class, opcode 0xe6, kind RRI2 -/
  | class_e6 (b1 b2 b3 : Byte)
  /-- row 204: mtacc, opcode 0xe8, kind RA_I2I2 -/
  | mtacc_e8 (b1 b2 b3 : Byte)
  /-- row 205: mfacc, opcode 0xe9, kind RC_I2I2 -/
  | mfacc_e9 (b1 b2 b3 : Byte)
  /-- row 206: feq, opcode 0xea, kind RRR -/
  | feq_ea (b1 b2 b3 : Byte)
  /-- row 207: deq, opcode 0xeb, kind RRR -/
  | deq_eb (b1 b2 b3 : Byte)
  /-- row 208: fgt, opcode 0xec, kind RRR -/
  | fgt_ec (b1 b2 b3 : Byte)
  /-- row 209: dgt, opcode 0xed, kind RRR -/
  | dgt_ed (b1 b2 b3 : Byte)
  /-- row 210: fge, opcode 0xee, kind RRR -/
  | fge_ee (b1 b2 b3 : Byte)
  /-- row 211: dge, opcode 0xef, kind RRR -/
  | dge_ef (b1 b2 b3 : Byte)
  /-- row 212: fadd, opcode 0xf0, kind RRR -/
  | fadd_f0 (b1 b2 b3 : Byte)
  /-- row 213: dadd, opcode 0xf1, kind RRR -/
  | dadd_f1 (b1 b2 b3 : Byte)
  /-- row 214: fsub, opcode 0xf2, kind RRR -/
  | fsub_f2 (b1 b2 b3 : Byte)
  /-- row 215: dsub, opcode 0xf3, kind RRR -/
  | dsub_f3 (b1 b2 b3 : Byte)
  /-- row 216: fmul, opcode 0xf4, kind RRR -/
  | fmul_f4 (b1 b2 b3 : Byte)
  /-- row 217: dmul, opcode 0xf5, kind RRR -/
  | dmul_f5 (b1 b2 b3 : Byte)
  /-- row 218: fdiv, opcode 0xf6, kind RRR -/
  | fdiv_f6 (b1 b2 b3 : Byte)
  /-- row 219: ddiv, opcode 0xf7, kind RRR -/
  | ddiv_f7 (b1 b2 b3 : Byte)
  /-- row 220: fdmul, opcode 0xf9, kind RRR -/
  | fdmul_f9 (b1 b2 b3 : Byte)
deriving DecidableEq, Repr

end Sys2Proof
end

