-- ==== Sys2Proof/WellFormed.lean ====
section
/-! DEFINITION. Which terms of `Instr` stand for a decoded word. Rows 0 and 2 to 20 of the opcode table
take their entry from the Catalog, so one of their terms could spell an entry that another row already
names; the decoder gives the most specific row, and the other spelling is ill-formed. -/

namespace Sys2Proof

/-- The entry is one of rows 21 to 220, which have constructors of their own. -/
abbrev CatalogEntry.isNamed (e : CatalogEntry) : Bool :=
  decide (e ∈ Machine.referenceCatalog)

/-- The entry has the opcode byte and the kind of row 0, the attested entry (R108). -/
abbrev CatalogEntry.isAttested (e : CatalogEntry) : Bool :=
  e.opcode == 0x14 && e.rule == .RRM

/-- The check for rows 2 to 20: the entry is none that a more specific row names. -/
abbrev CatalogEntry.isGeneric (e : CatalogEntry) : Bool :=
  !e.isNamed && !e.isAttested

/-- An instruction is well formed when no more specific row of the table spells its entry. -/
def Instr.wellFormed : Instr → Bool
  | .attested_14 app mnemonic cls _ _ _ => !CatalogEntry.isNamed ⟨0x14, app, mnemonic, cls, .RRM⟩
  | .nopLiteral => true
  | .anyRRM e _ _ _ => (e.withRule .RRM).isGeneric
  | .anyRRR e _ _ _ => (e.withRule .RRR).isGeneric
  | .anyRI16 e _ _ _ => (e.withRule .RI16).isGeneric
  | .anyRDISP e _ _ _ => (e.withRule .RDISP).isGeneric
  | .anyDISP e _ _ _ => (e.withRule .DISP).isGeneric
  | .anyLDST e _ _ _ => (e.withRule .LDST).isGeneric
  | .anyICALL e _ _ _ => (e.withRule .ICALL).isGeneric
  | .anyRRI2 e _ _ _ => (e.withRule .RRI2).isGeneric
  | .anyCLZ e _ _ _ => (e.withRule .CLZ).isGeneric
  | .anyCVT6 e _ _ _ => (e.withRule .CVT6).isGeneric
  | .anyRCRA e _ _ _ => (e.withRule .RCRA).isGeneric
  | .anyMAC e _ _ _ => (e.withRule .MAC).isGeneric
  | .anyR1R3 e _ _ _ => (e.withRule .R1R3).isGeneric
  | .anyRB e _ _ _ => (e.withRule .RB).isGeneric
  | .anyRC_I2I2 e _ _ _ => (e.withRule .RC_I2I2).isGeneric
  | .anyRA_I2I2 e _ _ _ => (e.withRule .RA_I2I2).isGeneric
  | .anyMFSR e _ _ _ => (e.withRule .MFSR).isGeneric
  | .anyMTSR e _ _ _ => (e.withRule .MTSR).isGeneric
  | .anyNONE e _ _ _ => (e.withRule .NONE).isGeneric
  | .constn_01 _ _ _ => true
  | .consth_02 _ _ _ => true
  | .const_03 _ _ _ => true
  | .mtsrim_04 _ _ _ => true
  | .consthz_05 _ _ _ => true
  | .loadl_06 _ _ _ => true
  | .loadl_07 _ _ _ => true
  | .clz_08 _ _ _ => true
  | .clz_09 _ _ _ => true
  | .exbyte_0a _ _ _ => true
  | .exbyte_0b _ _ _ => true
  | .inbyte_0c _ _ _ => true
  | .inbyte_0d _ _ _ => true
  | .storel_0e _ _ _ => true
  | .storel_0f _ _ _ => true
  | .adds_10 _ _ _ => true
  | .adds_11 _ _ _ => true
  | .addu_12 _ _ _ => true
  | .addu_13 _ _ _ => true
  | .add_14 _ _ _ => true
  | .add_15 _ _ _ => true
  | .load_16 _ _ _ => true
  | .load_17 _ _ _ => true
  | .addcs_18 _ _ _ => true
  | .addcs_19 _ _ _ => true
  | .addcu_1a _ _ _ => true
  | .addcu_1b _ _ _ => true
  | .addc_1c _ _ _ => true
  | .addc_1d _ _ _ => true
  | .store_1e _ _ _ => true
  | .store_1f _ _ _ => true
  | .subs_20 _ _ _ => true
  | .subs_21 _ _ _ => true
  | .subu_22 _ _ _ => true
  | .subu_23 _ _ _ => true
  | .sub_24 _ _ _ => true
  | .sub_25 _ _ _ => true
  | .loadset_26 _ _ _ => true
  | .loadset_27 _ _ _ => true
  | .subcs_28 _ _ _ => true
  | .subcs_29 _ _ _ => true
  | .subcu_2a _ _ _ => true
  | .subcu_2b _ _ _ => true
  | .subc_2c _ _ _ => true
  | .subc_2d _ _ _ => true
  | .cpbyte_2e _ _ _ => true
  | .cpbyte_2f _ _ _ => true
  | .subrs_30 _ _ _ => true
  | .subrs_31 _ _ _ => true
  | .subru_32 _ _ _ => true
  | .subru_33 _ _ _ => true
  | .subr_34 _ _ _ => true
  | .subr_35 _ _ _ => true
  | .loadm_36 _ _ _ => true
  | .loadm_37 _ _ _ => true
  | .subrcs_38 _ _ _ => true
  | .subrcs_39 _ _ _ => true
  | .subrcu_3a _ _ _ => true
  | .subrcu_3b _ _ _ => true
  | .subrc_3c _ _ _ => true
  | .subrc_3d _ _ _ => true
  | .storem_3e _ _ _ => true
  | .storem_3f _ _ _ => true
  | .cplt_40 _ _ _ => true
  | .cplt_41 _ _ _ => true
  | .cpltu_42 _ _ _ => true
  | .cpltu_43 _ _ _ => true
  | .cple_44 _ _ _ => true
  | .cple_45 _ _ _ => true
  | .cpleu_46 _ _ _ => true
  | .cpleu_47 _ _ _ => true
  | .cpgt_48 _ _ _ => true
  | .cpgt_49 _ _ _ => true
  | .cpgtu_4a _ _ _ => true
  | .cpgtu_4b _ _ _ => true
  | .cpge_4c _ _ _ => true
  | .cpge_4d _ _ _ => true
  | .cpgeu_4e _ _ _ => true
  | .cpgeu_4f _ _ _ => true
  | .aslt_50 _ _ _ => true
  | .aslt_51 _ _ _ => true
  | .asltu_52 _ _ _ => true
  | .asltu_53 _ _ _ => true
  | .asle_54 _ _ _ => true
  | .asle_55 _ _ _ => true
  | .asleu_56 _ _ _ => true
  | .asleu_57 _ _ _ => true
  | .asgt_58 _ _ _ => true
  | .asgt_59 _ _ _ => true
  | .asgtu_5a _ _ _ => true
  | .asgtu_5b _ _ _ => true
  | .asge_5c _ _ _ => true
  | .asge_5d _ _ _ => true
  | .asgeu_5e _ _ _ => true
  | .asgeu_5f _ _ _ => true
  | .cpeq_60 _ _ _ => true
  | .cpeq_61 _ _ _ => true
  | .cpneq_62 _ _ _ => true
  | .cpneq_63 _ _ _ => true
  | .mul_64 _ _ _ => true
  | .mul_65 _ _ _ => true
  | .mull_66 _ _ _ => true
  | .mull_67 _ _ _ => true
  | .div0_68 _ _ _ => true
  | .div0_69 _ _ _ => true
  | .div_6a _ _ _ => true
  | .div_6b _ _ _ => true
  | .divl_6c _ _ _ => true
  | .divl_6d _ _ _ => true
  | .divrem_6e _ _ _ => true
  | .divrem_6f _ _ _ => true
  | .aseq_70 _ _ _ => true
  | .aseq_71 _ _ _ => true
  | .asneq_72 _ _ _ => true
  | .asneq_73 _ _ _ => true
  | .mulu_74 _ _ _ => true
  | .mulu_75 _ _ _ => true
  | .inhw_78 _ _ _ => true
  | .inhw_79 _ _ _ => true
  | .extract_7a _ _ _ => true
  | .extract_7b _ _ _ => true
  | .exhw_7c _ _ _ => true
  | .exhw_7d _ _ _ => true
  | .exhws_7e _ _ _ => true
  | .sll_80 _ _ _ => true
  | .sll_81 _ _ _ => true
  | .srl_82 _ _ _ => true
  | .srl_83 _ _ _ => true
  | .sra_86 _ _ _ => true
  | .sra_87 _ _ _ => true
  | .iret_88 _ _ _ => true
  | .halt_89 _ _ _ => true
  | .iretinv_8c _ _ _ => true
  | .and_90 _ _ _ => true
  | .and_91 _ _ _ => true
  | .or_92 _ _ _ => true
  | .or_93 _ _ _ => true
  | .xor_94 _ _ _ => true
  | .xor_95 _ _ _ => true
  | .xnor_96 _ _ _ => true
  | .xnor_97 _ _ _ => true
  | .nor_98 _ _ _ => true
  | .nor_99 _ _ _ => true
  | .nand_9a _ _ _ => true
  | .nand_9b _ _ _ => true
  | .andn_9c _ _ _ => true
  | .andn_9d _ _ _ => true
  | .setip_9e _ _ _ => true
  | .inv_9f _ _ _ => true
  | .jmp_a0 _ _ _ => true
  | .jmp_a1 _ _ _ => true
  | .jmpf_a4 _ _ _ => true
  | .jmpf_a5 _ _ _ => true
  | .call_a8 _ _ _ => true
  | .call_a9 _ _ _ => true
  | .orn_aa _ _ _ => true
  | .orn_ab _ _ _ => true
  | .jmpt_ac _ _ _ => true
  | .jmpt_ad _ _ _ => true
  | .jmpfdec_b4 _ _ _ => true
  | .jmpfdec_b5 _ _ _ => true
  | .mftlb_b6 _ _ _ => true
  | .mttlb_be _ _ _ => true
  | .jmpi_c0 _ _ _ => true
  | .jmpfi_c4 _ _ _ => true
  | .mfsr_c6 _ _ _ => true
  | .calli_c8 _ _ _ => true
  | .jmpti_cc _ _ _ => true
  | .mtsr_ce _ _ _ => true
  | .emulate_d7 _ _ _ => true
  | .fmac_d8 _ _ _ => true
  | .dmac_d9 _ _ _ => true
  | .fmsm_da _ _ _ => true
  | .dmsm_db _ _ _ => true
  | .multm_de _ _ _ => true
  | .multmu_df _ _ _ => true
  | .multiply_e0 _ _ _ => true
  | .divide_e1 _ _ _ => true
  | .multiplu_e2 _ _ _ => true
  | .dividu_e3 _ _ _ => true
  | .convert_e4 _ _ _ => true
  | .sqrt_e5 _ _ _ => true
  | .class_e6 _ _ _ => true
  | .mtacc_e8 _ _ _ => true
  | .mfacc_e9 _ _ _ => true
  | .feq_ea _ _ _ => true
  | .deq_eb _ _ _ => true
  | .fgt_ec _ _ _ => true
  | .dgt_ed _ _ _ => true
  | .fge_ee _ _ _ => true
  | .dge_ef _ _ _ => true
  | .fadd_f0 _ _ _ => true
  | .dadd_f1 _ _ _ => true
  | .fsub_f2 _ _ _ => true
  | .dsub_f3 _ _ _ => true
  | .fmul_f4 _ _ _ => true
  | .dmul_f5 _ _ _ => true
  | .fdiv_f6 _ _ _ => true
  | .ddiv_f7 _ _ _ => true
  | .fdmul_f9 _ _ _ => true

end Sys2Proof
end

