-- ==== Sys2Proof/Decode.lean ====
section
/-! DEFINITION. The dispatcher's decoding (spec/42_catalog_dispatch.md R112 to R116): validation of the
inputs, the no-op literal, the scan of the Catalog and the row the selected entry is; then the encoder.
Decoding is total on any four bytes and rejects by name (`DecodeError`). What the operand bytes become
is the decode rules' matter (Machine/Operands.lean). -/

namespace Sys2Proof

/-- The word view of the four bytes, `b[0]` in bits 31 to 24 (R10, R35). -/
def Bytes4.toWord (b : Bytes4) : Word :=
  b.b0 ++ b.b1 ++ b.b2 ++ b.b3

/-- The four bytes of a word, opcode byte first (R10, R35). -/
def Bytes4.ofWord (w : Word) : Bytes4 :=
  ⟨w.extractLsb' 24 8, w.extractLsb' 16 8, w.extractLsb' 8 8, w.extractLsb' 0 8⟩

/-- The byte of a number: `b[0]` to `b[3]` (R10). -/
def Bytes4.byte (b : Bytes4) (i : Fin 4) : Byte :=
  match i with
  | 0 => b.b0
  | 1 => b.b1
  | 2 => b.b2
  | 3 => b.b3

/-- The shortest buffer `decode` accepts (R34). -/
abbrev minBufferLen : Nat := 4

/-- A CPU variant is well formed when it is absent or has at least `VARIANT_MIN_LEN` characters (R112). -/
def variantOk (minLen : Nat) : Option String → Bool
  | none => true
  | some v => decide (minLen ≤ v.length)

/-- Validation, before any table lookup and before any byte is read (R112, R157). -/
def inputsOk (p : Params) (bufPresent : Bool) (len : Nat) (cpuVariant : Option String)
    (sinkPresent : Bool) : Bool :=
  bufPresent && sinkPresent && decide (minBufferLen ≤ len) && variantOk p.variantMinLen cpuVariant

/-- The applicability of the entries that belong to a family (R109). -/
def Family.app : Family → Applicability
  | .familyA => .familyA
  | .familyB => .familyB

/-- What the check `c` of family `f` answers for the variant `v`. -/
def FamilyCheck.admits (c : FamilyCheck) (f : Family) (v : Option String) : Bool :=
  match c.listed.lookup v with
  | some answer => answer
  | none =>
    match c.otherwise with
    | .always answer => answer
    | .unspecified index => openCompat index f v

/-- `COMPAT(app, v)`: an `any` entry is compatible with every variant; a family entry as the check of
its family says (R110). -/
def Compat.admits (c : Compat) (app : Applicability) (v : Option String) : Bool :=
  match app with
  | .any => true
  | .familyA => c.familyA.admits .familyA v
  | .familyB => c.familyB.admits .familyB v

/-- The match condition of an entry: its opcode byte is byte 0 and it is compatible (R114). -/
def entryMatches (compat : Applicability → Option String → Bool) (v : Option String) (opcode : Byte)
    (e : CatalogEntry) : Bool :=
  e.opcode == opcode && compat e.app v

/-- The scan: the first entry in declaration order that matches (R105, R114). -/
def scan (compat : Applicability → Option String → Bool) (catalog : List CatalogEntry)
    (v : Option String) (opcode : Byte) : Option CatalogEntry :=
  catalog.find? (entryMatches compat v opcode)

/-- The opcode bytes of rows 21 to 45 and their constructors. -/
def namedRows0 : List (Byte × (Byte → Byte → Byte → Instr)) := [
  (0x01, .constn_01),
  (0x02, .consth_02),
  (0x03, .const_03),
  (0x04, .mtsrim_04),
  (0x05, .consthz_05),
  (0x06, .loadl_06),
  (0x07, .loadl_07),
  (0x08, .clz_08),
  (0x09, .clz_09),
  (0x0a, .exbyte_0a),
  (0x0b, .exbyte_0b),
  (0x0c, .inbyte_0c),
  (0x0d, .inbyte_0d),
  (0x0e, .storel_0e),
  (0x0f, .storel_0f),
  (0x10, .adds_10),
  (0x11, .adds_11),
  (0x12, .addu_12),
  (0x13, .addu_13),
  (0x14, .add_14),
  (0x15, .add_15),
  (0x16, .load_16),
  (0x17, .load_17),
  (0x18, .addcs_18),
  (0x19, .addcs_19)]

/-- The opcode bytes of rows 46 to 70 and their constructors. -/
def namedRows1 : List (Byte × (Byte → Byte → Byte → Instr)) := [
  (0x1a, .addcu_1a),
  (0x1b, .addcu_1b),
  (0x1c, .addc_1c),
  (0x1d, .addc_1d),
  (0x1e, .store_1e),
  (0x1f, .store_1f),
  (0x20, .subs_20),
  (0x21, .subs_21),
  (0x22, .subu_22),
  (0x23, .subu_23),
  (0x24, .sub_24),
  (0x25, .sub_25),
  (0x26, .loadset_26),
  (0x27, .loadset_27),
  (0x28, .subcs_28),
  (0x29, .subcs_29),
  (0x2a, .subcu_2a),
  (0x2b, .subcu_2b),
  (0x2c, .subc_2c),
  (0x2d, .subc_2d),
  (0x2e, .cpbyte_2e),
  (0x2f, .cpbyte_2f),
  (0x30, .subrs_30),
  (0x31, .subrs_31),
  (0x32, .subru_32)]

/-- The opcode bytes of rows 71 to 95 and their constructors. -/
def namedRows2 : List (Byte × (Byte → Byte → Byte → Instr)) := [
  (0x33, .subru_33),
  (0x34, .subr_34),
  (0x35, .subr_35),
  (0x36, .loadm_36),
  (0x37, .loadm_37),
  (0x38, .subrcs_38),
  (0x39, .subrcs_39),
  (0x3a, .subrcu_3a),
  (0x3b, .subrcu_3b),
  (0x3c, .subrc_3c),
  (0x3d, .subrc_3d),
  (0x3e, .storem_3e),
  (0x3f, .storem_3f),
  (0x40, .cplt_40),
  (0x41, .cplt_41),
  (0x42, .cpltu_42),
  (0x43, .cpltu_43),
  (0x44, .cple_44),
  (0x45, .cple_45),
  (0x46, .cpleu_46),
  (0x47, .cpleu_47),
  (0x48, .cpgt_48),
  (0x49, .cpgt_49),
  (0x4a, .cpgtu_4a),
  (0x4b, .cpgtu_4b)]

/-- The opcode bytes of rows 96 to 120 and their constructors. -/
def namedRows3 : List (Byte × (Byte → Byte → Byte → Instr)) := [
  (0x4c, .cpge_4c),
  (0x4d, .cpge_4d),
  (0x4e, .cpgeu_4e),
  (0x4f, .cpgeu_4f),
  (0x50, .aslt_50),
  (0x51, .aslt_51),
  (0x52, .asltu_52),
  (0x53, .asltu_53),
  (0x54, .asle_54),
  (0x55, .asle_55),
  (0x56, .asleu_56),
  (0x57, .asleu_57),
  (0x58, .asgt_58),
  (0x59, .asgt_59),
  (0x5a, .asgtu_5a),
  (0x5b, .asgtu_5b),
  (0x5c, .asge_5c),
  (0x5d, .asge_5d),
  (0x5e, .asgeu_5e),
  (0x5f, .asgeu_5f),
  (0x60, .cpeq_60),
  (0x61, .cpeq_61),
  (0x62, .cpneq_62),
  (0x63, .cpneq_63),
  (0x64, .mul_64)]

/-- The opcode bytes of rows 121 to 145 and their constructors. -/
def namedRows4 : List (Byte × (Byte → Byte → Byte → Instr)) := [
  (0x65, .mul_65),
  (0x66, .mull_66),
  (0x67, .mull_67),
  (0x68, .div0_68),
  (0x69, .div0_69),
  (0x6a, .div_6a),
  (0x6b, .div_6b),
  (0x6c, .divl_6c),
  (0x6d, .divl_6d),
  (0x6e, .divrem_6e),
  (0x6f, .divrem_6f),
  (0x70, .aseq_70),
  (0x71, .aseq_71),
  (0x72, .asneq_72),
  (0x73, .asneq_73),
  (0x74, .mulu_74),
  (0x75, .mulu_75),
  (0x78, .inhw_78),
  (0x79, .inhw_79),
  (0x7a, .extract_7a),
  (0x7b, .extract_7b),
  (0x7c, .exhw_7c),
  (0x7d, .exhw_7d),
  (0x7e, .exhws_7e),
  (0x80, .sll_80)]

/-- The opcode bytes of rows 146 to 170 and their constructors. -/
def namedRows5 : List (Byte × (Byte → Byte → Byte → Instr)) := [
  (0x81, .sll_81),
  (0x82, .srl_82),
  (0x83, .srl_83),
  (0x86, .sra_86),
  (0x87, .sra_87),
  (0x88, .iret_88),
  (0x89, .halt_89),
  (0x8c, .iretinv_8c),
  (0x90, .and_90),
  (0x91, .and_91),
  (0x92, .or_92),
  (0x93, .or_93),
  (0x94, .xor_94),
  (0x95, .xor_95),
  (0x96, .xnor_96),
  (0x97, .xnor_97),
  (0x98, .nor_98),
  (0x99, .nor_99),
  (0x9a, .nand_9a),
  (0x9b, .nand_9b),
  (0x9c, .andn_9c),
  (0x9d, .andn_9d),
  (0x9e, .setip_9e),
  (0x9f, .inv_9f),
  (0xa0, .jmp_a0)]

/-- The opcode bytes of rows 171 to 195 and their constructors. -/
def namedRows6 : List (Byte × (Byte → Byte → Byte → Instr)) := [
  (0xa1, .jmp_a1),
  (0xa4, .jmpf_a4),
  (0xa5, .jmpf_a5),
  (0xa8, .call_a8),
  (0xa9, .call_a9),
  (0xaa, .orn_aa),
  (0xab, .orn_ab),
  (0xac, .jmpt_ac),
  (0xad, .jmpt_ad),
  (0xb4, .jmpfdec_b4),
  (0xb5, .jmpfdec_b5),
  (0xb6, .mftlb_b6),
  (0xbe, .mttlb_be),
  (0xc0, .jmpi_c0),
  (0xc4, .jmpfi_c4),
  (0xc6, .mfsr_c6),
  (0xc8, .calli_c8),
  (0xcc, .jmpti_cc),
  (0xce, .mtsr_ce),
  (0xd7, .emulate_d7),
  (0xd8, .fmac_d8),
  (0xd9, .dmac_d9),
  (0xda, .fmsm_da),
  (0xdb, .dmsm_db),
  (0xde, .multm_de)]

/-- The opcode bytes of rows 196 to 220 and their constructors. -/
def namedRows7 : List (Byte × (Byte → Byte → Byte → Instr)) := [
  (0xdf, .multmu_df),
  (0xe0, .multiply_e0),
  (0xe1, .divide_e1),
  (0xe2, .multiplu_e2),
  (0xe3, .dividu_e3),
  (0xe4, .convert_e4),
  (0xe5, .sqrt_e5),
  (0xe6, .class_e6),
  (0xe8, .mtacc_e8),
  (0xe9, .mfacc_e9),
  (0xea, .feq_ea),
  (0xeb, .deq_eb),
  (0xec, .fgt_ec),
  (0xed, .dgt_ed),
  (0xee, .fge_ee),
  (0xef, .dge_ef),
  (0xf0, .fadd_f0),
  (0xf1, .dadd_f1),
  (0xf2, .fsub_f2),
  (0xf3, .dsub_f3),
  (0xf4, .fmul_f4),
  (0xf5, .dmul_f5),
  (0xf6, .fdiv_f6),
  (0xf7, .ddiv_f7),
  (0xf9, .fdmul_f9)]

/-- The opcode bytes of rows 21 to 220 of spec/opcode_table.json and their constructors. -/
def namedRows : List (Byte × (Byte → Byte → Byte → Instr)) :=
  namedRows0 ++ namedRows1 ++ namedRows2 ++ namedRows3 ++ namedRows4 ++ namedRows5 ++ namedRows6 ++ namedRows7

/-- The instruction of rows 21 to 220 whose opcode byte is `opcode`, if there is one. -/
def namedInstr (opcode b1 b2 b3 : Byte) : Option Instr :=
  (namedRows.find? (fun r => r.1 == opcode)).map (fun r => r.2 b1 b2 b3)

/-- The Catalog Entry an instruction was selected through; the no-op literal has none (R113). -/
def Instr.entry : Instr → Option CatalogEntry
  | .attested_14 app mnemonic cls _ _ _ => some ⟨0x14, app, mnemonic, cls, .RRM⟩
  | .nopLiteral => none
  | .anyRRM e _ _ _ => some (e.withRule .RRM)
  | .anyRRR e _ _ _ => some (e.withRule .RRR)
  | .anyRI16 e _ _ _ => some (e.withRule .RI16)
  | .anyRDISP e _ _ _ => some (e.withRule .RDISP)
  | .anyDISP e _ _ _ => some (e.withRule .DISP)
  | .anyLDST e _ _ _ => some (e.withRule .LDST)
  | .anyICALL e _ _ _ => some (e.withRule .ICALL)
  | .anyRRI2 e _ _ _ => some (e.withRule .RRI2)
  | .anyCLZ e _ _ _ => some (e.withRule .CLZ)
  | .anyCVT6 e _ _ _ => some (e.withRule .CVT6)
  | .anyRCRA e _ _ _ => some (e.withRule .RCRA)
  | .anyMAC e _ _ _ => some (e.withRule .MAC)
  | .anyR1R3 e _ _ _ => some (e.withRule .R1R3)
  | .anyRB e _ _ _ => some (e.withRule .RB)
  | .anyRC_I2I2 e _ _ _ => some (e.withRule .RC_I2I2)
  | .anyRA_I2I2 e _ _ _ => some (e.withRule .RA_I2I2)
  | .anyMFSR e _ _ _ => some (e.withRule .MFSR)
  | .anyMTSR e _ _ _ => some (e.withRule .MTSR)
  | .anyNONE e _ _ _ => some (e.withRule .NONE)
  | .constn_01 _ _ _ => some ⟨0x01, .any, "constn", .move, .RI16⟩
  | .consth_02 _ _ _ => some ⟨0x02, .any, "consth", .move, .RI16⟩
  | .const_03 _ _ _ => some ⟨0x03, .any, "const", .move, .RI16⟩
  | .mtsrim_04 _ _ _ => some ⟨0x04, .any, "mtsrim", .move, .RI16⟩
  | .consthz_05 _ _ _ => some ⟨0x05, .familyB, "consthz", .move, .RI16⟩
  | .loadl_06 _ _ _ => some ⟨0x06, .any, "loadl", .load, .LDST⟩
  | .loadl_07 _ _ _ => some ⟨0x07, .any, "loadl", .load, .LDST⟩
  | .clz_08 _ _ _ => some ⟨0x08, .any, "clz", .unclassified, .CLZ⟩
  | .clz_09 _ _ _ => some ⟨0x09, .any, "clz", .unclassified, .CLZ⟩
  | .exbyte_0a _ _ _ => some ⟨0x0a, .any, "exbyte", .unclassified, .RRM⟩
  | .exbyte_0b _ _ _ => some ⟨0x0b, .any, "exbyte", .unclassified, .RRM⟩
  | .inbyte_0c _ _ _ => some ⟨0x0c, .any, "inbyte", .unclassified, .RRM⟩
  | .inbyte_0d _ _ _ => some ⟨0x0d, .any, "inbyte", .unclassified, .RRM⟩
  | .storel_0e _ _ _ => some ⟨0x0e, .any, "storel", .store, .LDST⟩
  | .storel_0f _ _ _ => some ⟨0x0f, .any, "storel", .store, .LDST⟩
  | .adds_10 _ _ _ => some ⟨0x10, .any, "adds", .arithAdd, .RRM⟩
  | .adds_11 _ _ _ => some ⟨0x11, .any, "adds", .arithAdd, .RRM⟩
  | .addu_12 _ _ _ => some ⟨0x12, .any, "addu", .arithAdd, .RRM⟩
  | .addu_13 _ _ _ => some ⟨0x13, .any, "addu", .arithAdd, .RRM⟩
  | .add_14 _ _ _ => some ⟨0x14, .any, "add", .arithAdd, .RRM⟩
  | .add_15 _ _ _ => some ⟨0x15, .any, "add", .arithAdd, .RRM⟩
  | .load_16 _ _ _ => some ⟨0x16, .any, "load", .load, .LDST⟩
  | .load_17 _ _ _ => some ⟨0x17, .any, "load", .load, .LDST⟩
  | .addcs_18 _ _ _ => some ⟨0x18, .any, "addcs", .arithAdd, .RRM⟩
  | .addcs_19 _ _ _ => some ⟨0x19, .any, "addcs", .arithAdd, .RRM⟩
  | .addcu_1a _ _ _ => some ⟨0x1a, .any, "addcu", .arithAdd, .RRM⟩
  | .addcu_1b _ _ _ => some ⟨0x1b, .any, "addcu", .arithAdd, .RRM⟩
  | .addc_1c _ _ _ => some ⟨0x1c, .any, "addc", .arithAdd, .RRM⟩
  | .addc_1d _ _ _ => some ⟨0x1d, .any, "addc", .arithAdd, .RRM⟩
  | .store_1e _ _ _ => some ⟨0x1e, .any, "store", .store, .LDST⟩
  | .store_1f _ _ _ => some ⟨0x1f, .any, "store", .store, .LDST⟩
  | .subs_20 _ _ _ => some ⟨0x20, .any, "subs", .arithSub, .RRM⟩
  | .subs_21 _ _ _ => some ⟨0x21, .any, "subs", .arithSub, .RRM⟩
  | .subu_22 _ _ _ => some ⟨0x22, .any, "subu", .arithSub, .RRM⟩
  | .subu_23 _ _ _ => some ⟨0x23, .any, "subu", .arithSub, .RRM⟩
  | .sub_24 _ _ _ => some ⟨0x24, .any, "sub", .arithSub, .RRM⟩
  | .sub_25 _ _ _ => some ⟨0x25, .any, "sub", .arithSub, .RRM⟩
  | .loadset_26 _ _ _ => some ⟨0x26, .any, "loadset", .load, .LDST⟩
  | .loadset_27 _ _ _ => some ⟨0x27, .any, "loadset", .load, .LDST⟩
  | .subcs_28 _ _ _ => some ⟨0x28, .any, "subcs", .arithSub, .RRM⟩
  | .subcs_29 _ _ _ => some ⟨0x29, .any, "subcs", .arithSub, .RRM⟩
  | .subcu_2a _ _ _ => some ⟨0x2a, .any, "subcu", .arithSub, .RRM⟩
  | .subcu_2b _ _ _ => some ⟨0x2b, .any, "subcu", .arithSub, .RRM⟩
  | .subc_2c _ _ _ => some ⟨0x2c, .any, "subc", .arithSub, .RRM⟩
  | .subc_2d _ _ _ => some ⟨0x2d, .any, "subc", .arithSub, .RRM⟩
  | .cpbyte_2e _ _ _ => some ⟨0x2e, .any, "cpbyte", .compare, .RRM⟩
  | .cpbyte_2f _ _ _ => some ⟨0x2f, .any, "cpbyte", .compare, .RRM⟩
  | .subrs_30 _ _ _ => some ⟨0x30, .any, "subrs", .arithSub, .RRM⟩
  | .subrs_31 _ _ _ => some ⟨0x31, .any, "subrs", .arithSub, .RRM⟩
  | .subru_32 _ _ _ => some ⟨0x32, .any, "subru", .arithSub, .RRM⟩
  | .subru_33 _ _ _ => some ⟨0x33, .any, "subru", .arithSub, .RRM⟩
  | .subr_34 _ _ _ => some ⟨0x34, .any, "subr", .arithSub, .RRM⟩
  | .subr_35 _ _ _ => some ⟨0x35, .any, "subr", .arithSub, .RRM⟩
  | .loadm_36 _ _ _ => some ⟨0x36, .any, "loadm", .load, .LDST⟩
  | .loadm_37 _ _ _ => some ⟨0x37, .any, "loadm", .load, .LDST⟩
  | .subrcs_38 _ _ _ => some ⟨0x38, .any, "subrcs", .arithSub, .RRM⟩
  | .subrcs_39 _ _ _ => some ⟨0x39, .any, "subrcs", .arithSub, .RRM⟩
  | .subrcu_3a _ _ _ => some ⟨0x3a, .any, "subrcu", .arithSub, .RRM⟩
  | .subrcu_3b _ _ _ => some ⟨0x3b, .any, "subrcu", .arithSub, .RRM⟩
  | .subrc_3c _ _ _ => some ⟨0x3c, .any, "subrc", .arithSub, .RRM⟩
  | .subrc_3d _ _ _ => some ⟨0x3d, .any, "subrc", .arithSub, .RRM⟩
  | .storem_3e _ _ _ => some ⟨0x3e, .any, "storem", .store, .LDST⟩
  | .storem_3f _ _ _ => some ⟨0x3f, .any, "storem", .store, .LDST⟩
  | .cplt_40 _ _ _ => some ⟨0x40, .any, "cplt", .compare, .RRM⟩
  | .cplt_41 _ _ _ => some ⟨0x41, .any, "cplt", .compare, .RRM⟩
  | .cpltu_42 _ _ _ => some ⟨0x42, .any, "cpltu", .compare, .RRM⟩
  | .cpltu_43 _ _ _ => some ⟨0x43, .any, "cpltu", .compare, .RRM⟩
  | .cple_44 _ _ _ => some ⟨0x44, .any, "cple", .compare, .RRM⟩
  | .cple_45 _ _ _ => some ⟨0x45, .any, "cple", .compare, .RRM⟩
  | .cpleu_46 _ _ _ => some ⟨0x46, .any, "cpleu", .compare, .RRM⟩
  | .cpleu_47 _ _ _ => some ⟨0x47, .any, "cpleu", .compare, .RRM⟩
  | .cpgt_48 _ _ _ => some ⟨0x48, .any, "cpgt", .compare, .RRM⟩
  | .cpgt_49 _ _ _ => some ⟨0x49, .any, "cpgt", .compare, .RRM⟩
  | .cpgtu_4a _ _ _ => some ⟨0x4a, .any, "cpgtu", .compare, .RRM⟩
  | .cpgtu_4b _ _ _ => some ⟨0x4b, .any, "cpgtu", .compare, .RRM⟩
  | .cpge_4c _ _ _ => some ⟨0x4c, .any, "cpge", .compare, .RRM⟩
  | .cpge_4d _ _ _ => some ⟨0x4d, .any, "cpge", .compare, .RRM⟩
  | .cpgeu_4e _ _ _ => some ⟨0x4e, .any, "cpgeu", .compare, .RRM⟩
  | .cpgeu_4f _ _ _ => some ⟨0x4f, .any, "cpgeu", .compare, .RRM⟩
  | .aslt_50 _ _ _ => some ⟨0x50, .any, "aslt", .compare, .RRM⟩
  | .aslt_51 _ _ _ => some ⟨0x51, .any, "aslt", .compare, .RRM⟩
  | .asltu_52 _ _ _ => some ⟨0x52, .any, "asltu", .compare, .RRM⟩
  | .asltu_53 _ _ _ => some ⟨0x53, .any, "asltu", .compare, .RRM⟩
  | .asle_54 _ _ _ => some ⟨0x54, .any, "asle", .compare, .RRM⟩
  | .asle_55 _ _ _ => some ⟨0x55, .any, "asle", .compare, .RRM⟩
  | .asleu_56 _ _ _ => some ⟨0x56, .any, "asleu", .compare, .RRM⟩
  | .asleu_57 _ _ _ => some ⟨0x57, .any, "asleu", .compare, .RRM⟩
  | .asgt_58 _ _ _ => some ⟨0x58, .any, "asgt", .compare, .RRM⟩
  | .asgt_59 _ _ _ => some ⟨0x59, .any, "asgt", .compare, .RRM⟩
  | .asgtu_5a _ _ _ => some ⟨0x5a, .any, "asgtu", .compare, .RRM⟩
  | .asgtu_5b _ _ _ => some ⟨0x5b, .any, "asgtu", .compare, .RRM⟩
  | .asge_5c _ _ _ => some ⟨0x5c, .any, "asge", .compare, .RRM⟩
  | .asge_5d _ _ _ => some ⟨0x5d, .any, "asge", .compare, .RRM⟩
  | .asgeu_5e _ _ _ => some ⟨0x5e, .any, "asgeu", .compare, .RRM⟩
  | .asgeu_5f _ _ _ => some ⟨0x5f, .any, "asgeu", .compare, .RRM⟩
  | .cpeq_60 _ _ _ => some ⟨0x60, .any, "cpeq", .compare, .RRM⟩
  | .cpeq_61 _ _ _ => some ⟨0x61, .any, "cpeq", .compare, .RRM⟩
  | .cpneq_62 _ _ _ => some ⟨0x62, .any, "cpneq", .compare, .RRM⟩
  | .cpneq_63 _ _ _ => some ⟨0x63, .any, "cpneq", .compare, .RRM⟩
  | .mul_64 _ _ _ => some ⟨0x64, .any, "mul", .arithMul, .RRM⟩
  | .mul_65 _ _ _ => some ⟨0x65, .any, "mul", .arithMul, .RRM⟩
  | .mull_66 _ _ _ => some ⟨0x66, .any, "mull", .arithMul, .RRM⟩
  | .mull_67 _ _ _ => some ⟨0x67, .any, "mull", .arithMul, .RRM⟩
  | .div0_68 _ _ _ => some ⟨0x68, .any, "div0", .arithDiv, .RRM⟩
  | .div0_69 _ _ _ => some ⟨0x69, .any, "div0", .arithDiv, .RRM⟩
  | .div_6a _ _ _ => some ⟨0x6a, .any, "div", .arithDiv, .RRM⟩
  | .div_6b _ _ _ => some ⟨0x6b, .any, "div", .arithDiv, .RRM⟩
  | .divl_6c _ _ _ => some ⟨0x6c, .any, "divl", .arithDiv, .RRM⟩
  | .divl_6d _ _ _ => some ⟨0x6d, .any, "divl", .arithDiv, .RRM⟩
  | .divrem_6e _ _ _ => some ⟨0x6e, .any, "divrem", .arithDiv, .RRM⟩
  | .divrem_6f _ _ _ => some ⟨0x6f, .any, "divrem", .arithDiv, .RRM⟩
  | .aseq_70 _ _ _ => some ⟨0x70, .any, "aseq", .compare, .RRM⟩
  | .aseq_71 _ _ _ => some ⟨0x71, .any, "aseq", .compare, .RRM⟩
  | .asneq_72 _ _ _ => some ⟨0x72, .any, "asneq", .compare, .RRM⟩
  | .asneq_73 _ _ _ => some ⟨0x73, .any, "asneq", .compare, .RRM⟩
  | .mulu_74 _ _ _ => some ⟨0x74, .any, "mulu", .arithMul, .RRM⟩
  | .mulu_75 _ _ _ => some ⟨0x75, .any, "mulu", .arithMul, .RRM⟩
  | .inhw_78 _ _ _ => some ⟨0x78, .any, "inhw", .unclassified, .RRM⟩
  | .inhw_79 _ _ _ => some ⟨0x79, .any, "inhw", .unclassified, .RRM⟩
  | .extract_7a _ _ _ => some ⟨0x7a, .any, "extract", .unclassified, .RRM⟩
  | .extract_7b _ _ _ => some ⟨0x7b, .any, "extract", .unclassified, .RRM⟩
  | .exhw_7c _ _ _ => some ⟨0x7c, .any, "exhw", .unclassified, .RRM⟩
  | .exhw_7d _ _ _ => some ⟨0x7d, .any, "exhw", .unclassified, .RRM⟩
  | .exhws_7e _ _ _ => some ⟨0x7e, .any, "exhws", .unclassified, .RCRA⟩
  | .sll_80 _ _ _ => some ⟨0x80, .any, "sll", .unclassified, .RRM⟩
  | .sll_81 _ _ _ => some ⟨0x81, .any, "sll", .unclassified, .RRM⟩
  | .srl_82 _ _ _ => some ⟨0x82, .any, "srl", .unclassified, .RRM⟩
  | .srl_83 _ _ _ => some ⟨0x83, .any, "srl", .unclassified, .RRM⟩
  | .sra_86 _ _ _ => some ⟨0x86, .any, "sra", .unclassified, .RRM⟩
  | .sra_87 _ _ _ => some ⟨0x87, .any, "sra", .unclassified, .RRM⟩
  | .iret_88 _ _ _ => some ⟨0x88, .any, "iret", .ret, .NONE⟩
  | .halt_89 _ _ _ => some ⟨0x89, .any, "halt", .unclassified, .NONE⟩
  | .iretinv_8c _ _ _ => some ⟨0x8c, .any, "iretinv", .ret, .NONE⟩
  | .and_90 _ _ _ => some ⟨0x90, .any, "and", .bitAnd, .RRM⟩
  | .and_91 _ _ _ => some ⟨0x91, .any, "and", .bitAnd, .RRM⟩
  | .or_92 _ _ _ => some ⟨0x92, .any, "or", .bitOr, .RRM⟩
  | .or_93 _ _ _ => some ⟨0x93, .any, "or", .bitOr, .RRM⟩
  | .xor_94 _ _ _ => some ⟨0x94, .any, "xor", .bitXor, .RRM⟩
  | .xor_95 _ _ _ => some ⟨0x95, .any, "xor", .bitXor, .RRM⟩
  | .xnor_96 _ _ _ => some ⟨0x96, .any, "xnor", .bitXor, .RRM⟩
  | .xnor_97 _ _ _ => some ⟨0x97, .any, "xnor", .bitXor, .RRM⟩
  | .nor_98 _ _ _ => some ⟨0x98, .any, "nor", .bitNor, .RRM⟩
  | .nor_99 _ _ _ => some ⟨0x99, .any, "nor", .bitNor, .RRM⟩
  | .nand_9a _ _ _ => some ⟨0x9a, .any, "nand", .bitAnd, .RRM⟩
  | .nand_9b _ _ _ => some ⟨0x9b, .any, "nand", .bitAnd, .RRM⟩
  | .andn_9c _ _ _ => some ⟨0x9c, .any, "andn", .bitAnd, .RRM⟩
  | .andn_9d _ _ _ => some ⟨0x9d, .any, "andn", .bitAnd, .RRM⟩
  | .setip_9e _ _ _ => some ⟨0x9e, .any, "setip", .unclassified, .RRR⟩
  | .inv_9f _ _ _ => some ⟨0x9f, .any, "inv", .unclassified, .NONE⟩
  | .jmp_a0 _ _ _ => some ⟨0xa0, .any, "jmp", .jump, .DISP⟩
  | .jmp_a1 _ _ _ => some ⟨0xa1, .any, "jmp", .jump, .DISP⟩
  | .jmpf_a4 _ _ _ => some ⟨0xa4, .any, "jmpf", .condJump, .RDISP⟩
  | .jmpf_a5 _ _ _ => some ⟨0xa5, .any, "jmpf", .condJump, .RDISP⟩
  | .call_a8 _ _ _ => some ⟨0xa8, .any, "call", .call, .RDISP⟩
  | .call_a9 _ _ _ => some ⟨0xa9, .any, "call", .call, .RDISP⟩
  | .orn_aa _ _ _ => some ⟨0xaa, .familyB, "orn", .bitOr, .RRM⟩
  | .orn_ab _ _ _ => some ⟨0xab, .familyB, "orn", .bitOr, .RRM⟩
  | .jmpt_ac _ _ _ => some ⟨0xac, .any, "jmpt", .condJump, .RDISP⟩
  | .jmpt_ad _ _ _ => some ⟨0xad, .any, "jmpt", .condJump, .RDISP⟩
  | .jmpfdec_b4 _ _ _ => some ⟨0xb4, .any, "jmpfdec", .condJump, .RDISP⟩
  | .jmpfdec_b5 _ _ _ => some ⟨0xb5, .any, "jmpfdec", .condJump, .RDISP⟩
  | .mftlb_b6 _ _ _ => some ⟨0xb6, .any, "mftlb", .move, .RCRA⟩
  | .mttlb_be _ _ _ => some ⟨0xbe, .any, "mttlb", .move, .ICALL⟩
  | .jmpi_c0 _ _ _ => some ⟨0xc0, .any, "jmpi", .indirectJump, .RB⟩
  | .jmpfi_c4 _ _ _ => some ⟨0xc4, .any, "jmpfi", .condJump, .ICALL⟩
  | .mfsr_c6 _ _ _ => some ⟨0xc6, .any, "mfsr", .move, .MFSR⟩
  | .calli_c8 _ _ _ => some ⟨0xc8, .any, "calli", .indirectCall, .ICALL⟩
  | .jmpti_cc _ _ _ => some ⟨0xcc, .any, "jmpti", .condJump, .ICALL⟩
  | .mtsr_ce _ _ _ => some ⟨0xce, .any, "mtsr", .move, .MTSR⟩
  | .emulate_d7 _ _ _ => some ⟨0xd7, .any, "emulate", .unclassified, .RRR⟩
  | .fmac_d8 _ _ _ => some ⟨0xd8, .familyB, "fmac", .arithMul, .MAC⟩
  | .dmac_d9 _ _ _ => some ⟨0xd9, .familyB, "dmac", .arithMul, .MAC⟩
  | .fmsm_da _ _ _ => some ⟨0xda, .familyB, "fmsm", .arithMul, .MAC⟩
  | .dmsm_db _ _ _ => some ⟨0xdb, .familyB, "dmsm", .arithMul, .MAC⟩
  | .multm_de _ _ _ => some ⟨0xde, .any, "multm", .arithMul, .RRR⟩
  | .multmu_df _ _ _ => some ⟨0xdf, .any, "multmu", .arithMul, .RRR⟩
  | .multiply_e0 _ _ _ => some ⟨0xe0, .any, "multiply", .arithMul, .RRR⟩
  | .divide_e1 _ _ _ => some ⟨0xe1, .any, "divide", .arithDiv, .RRR⟩
  | .multiplu_e2 _ _ _ => some ⟨0xe2, .any, "multiplu", .arithMul, .RRR⟩
  | .dividu_e3 _ _ _ => some ⟨0xe3, .any, "dividu", .arithDiv, .RRR⟩
  | .convert_e4 _ _ _ => some ⟨0xe4, .any, "convert", .unclassified, .CVT6⟩
  | .sqrt_e5 _ _ _ => some ⟨0xe5, .any, "sqrt", .unclassified, .RRI2⟩
  | .class_e6 _ _ _ => some ⟨0xe6, .any, "class", .unclassified, .RRI2⟩
  | .mtacc_e8 _ _ _ => some ⟨0xe8, .familyB, "mtacc", .move, .RA_I2I2⟩
  | .mfacc_e9 _ _ _ => some ⟨0xe9, .familyB, "mfacc", .move, .RC_I2I2⟩
  | .feq_ea _ _ _ => some ⟨0xea, .any, "feq", .compare, .RRR⟩
  | .deq_eb _ _ _ => some ⟨0xeb, .any, "deq", .compare, .RRR⟩
  | .fgt_ec _ _ _ => some ⟨0xec, .any, "fgt", .compare, .RRR⟩
  | .dgt_ed _ _ _ => some ⟨0xed, .any, "dgt", .compare, .RRR⟩
  | .fge_ee _ _ _ => some ⟨0xee, .any, "fge", .compare, .RRR⟩
  | .dge_ef _ _ _ => some ⟨0xef, .any, "dge", .compare, .RRR⟩
  | .fadd_f0 _ _ _ => some ⟨0xf0, .any, "fadd", .arithAdd, .RRR⟩
  | .dadd_f1 _ _ _ => some ⟨0xf1, .any, "dadd", .arithAdd, .RRR⟩
  | .fsub_f2 _ _ _ => some ⟨0xf2, .any, "fsub", .arithSub, .RRR⟩
  | .dsub_f3 _ _ _ => some ⟨0xf3, .any, "dsub", .arithSub, .RRR⟩
  | .fmul_f4 _ _ _ => some ⟨0xf4, .any, "fmul", .arithMul, .RRR⟩
  | .dmul_f5 _ _ _ => some ⟨0xf5, .any, "dmul", .arithMul, .RRR⟩
  | .fdiv_f6 _ _ _ => some ⟨0xf6, .any, "fdiv", .arithDiv, .RRR⟩
  | .ddiv_f7 _ _ _ => some ⟨0xf7, .any, "ddiv", .arithDiv, .RRR⟩
  | .fdmul_f9 _ _ _ => some ⟨0xf9, .any, "fdmul", .arithMul, .RRR⟩

/-- The row of the opcode table for a word of kind `e.rule` that no more specific row names. -/
def kindInstr (e : CatalogEntry) (b1 b2 b3 : Byte) : Instr :=
  match e.rule with
  | .RRM => .anyRRM e.head b1 b2 b3
  | .RRR => .anyRRR e.head b1 b2 b3
  | .RI16 => .anyRI16 e.head b1 b2 b3
  | .RDISP => .anyRDISP e.head b1 b2 b3
  | .DISP => .anyDISP e.head b1 b2 b3
  | .LDST => .anyLDST e.head b1 b2 b3
  | .ICALL => .anyICALL e.head b1 b2 b3
  | .RRI2 => .anyRRI2 e.head b1 b2 b3
  | .CLZ => .anyCLZ e.head b1 b2 b3
  | .CVT6 => .anyCVT6 e.head b1 b2 b3
  | .RCRA => .anyRCRA e.head b1 b2 b3
  | .MAC => .anyMAC e.head b1 b2 b3
  | .R1R3 => .anyR1R3 e.head b1 b2 b3
  | .RB => .anyRB e.head b1 b2 b3
  | .RC_I2I2 => .anyRC_I2I2 e.head b1 b2 b3
  | .RA_I2I2 => .anyRA_I2I2 e.head b1 b2 b3
  | .MFSR => .anyMFSR e.head b1 b2 b3
  | .MTSR => .anyMTSR e.head b1 b2 b3
  | .NONE => .anyNONE e.head b1 b2 b3

/-- The row of the opcode table that the selected entry `e` is: one of rows 21 to 220 if it is that
entry in every field, else row 0 if it has opcode byte 0x14 and kind RRM, else the row of its kind. -/
def instrOfEntry (e : CatalogEntry) (b1 b2 b3 : Byte) : Instr :=
  match namedInstr e.opcode b1 b2 b3 with
  | some i => if i.entry = some e then i else otherRow
  | none => otherRow
where
  /-- Row 0 or the row of the entry's kind. -/
  otherRow : Instr :=
    if e.isAttested then .attested_14 e.app e.mnemonic e.cls b1 b2 b3 else kindInstr e b1 b2 b3

/-- Decoding of four bytes once the inputs are valid: the no-op literal first (R113), then the scan
(R114), then `UnknownOpcode` (R116). -/
def decodeWord (p : Params) (cpuVariant : Option String) (b : Bytes4) : Except DecodeError Instr :=
  if b = p.nopLiteral then .ok .nopLiteral
  else
    match scan p.compat.admits p.catalog cpuVariant b.b0 with
    | some e => .ok (instrOfEntry e b.b1 b.b2 b.b3)
    | none => .error .unknownOpcode

/-- What the decoder reads, under the parameters at reset and with no variant, from the table's word
`w` of `nbits` bits (bits above `nbits` are zero). -/
def decodeTableWord (nbits w : Nat) : Option Instr :=
  match decodeWord Machine.resetParams none (Bytes4.ofWord (BitVec.ofNat 32 (w % 2 ^ nbits))) with
  | .ok i => some i
  | .error _ => none

/-- The four bytes of an instruction, from the encoding column of the opcode table (R48, R49). The
no-op literal's bytes are the parameter `NOP_LITERAL` (R113). -/
def encode (p : Params) : Instr → Bytes4
  | .attested_14 _ _ _ b1 b2 b3 => ⟨0x14, b1, b2, b3⟩
  | .nopLiteral => p.nopLiteral
  | .anyRRM e b1 b2 b3 => ⟨e.opcode, b1, b2, b3⟩
  | .anyRRR e b1 b2 b3 => ⟨e.opcode, b1, b2, b3⟩
  | .anyRI16 e b1 b2 b3 => ⟨e.opcode, b1, b2, b3⟩
  | .anyRDISP e b1 b2 b3 => ⟨e.opcode, b1, b2, b3⟩
  | .anyDISP e b1 b2 b3 => ⟨e.opcode, b1, b2, b3⟩
  | .anyLDST e b1 b2 b3 => ⟨e.opcode, b1, b2, b3⟩
  | .anyICALL e b1 b2 b3 => ⟨e.opcode, b1, b2, b3⟩
  | .anyRRI2 e b1 b2 b3 => ⟨e.opcode, b1, b2, b3⟩
  | .anyCLZ e b1 b2 b3 => ⟨e.opcode, b1, b2, b3⟩
  | .anyCVT6 e b1 b2 b3 => ⟨e.opcode, b1, b2, b3⟩
  | .anyRCRA e b1 b2 b3 => ⟨e.opcode, b1, b2, b3⟩
  | .anyMAC e b1 b2 b3 => ⟨e.opcode, b1, b2, b3⟩
  | .anyR1R3 e b1 b2 b3 => ⟨e.opcode, b1, b2, b3⟩
  | .anyRB e b1 b2 b3 => ⟨e.opcode, b1, b2, b3⟩
  | .anyRC_I2I2 e b1 b2 b3 => ⟨e.opcode, b1, b2, b3⟩
  | .anyRA_I2I2 e b1 b2 b3 => ⟨e.opcode, b1, b2, b3⟩
  | .anyMFSR e b1 b2 b3 => ⟨e.opcode, b1, b2, b3⟩
  | .anyMTSR e b1 b2 b3 => ⟨e.opcode, b1, b2, b3⟩
  | .anyNONE e b1 b2 b3 => ⟨e.opcode, b1, b2, b3⟩
  | .constn_01 b1 b2 b3 => ⟨0x01, b1, b2, b3⟩
  | .consth_02 b1 b2 b3 => ⟨0x02, b1, b2, b3⟩
  | .const_03 b1 b2 b3 => ⟨0x03, b1, b2, b3⟩
  | .mtsrim_04 b1 b2 b3 => ⟨0x04, b1, b2, b3⟩
  | .consthz_05 b1 b2 b3 => ⟨0x05, b1, b2, b3⟩
  | .loadl_06 b1 b2 b3 => ⟨0x06, b1, b2, b3⟩
  | .loadl_07 b1 b2 b3 => ⟨0x07, b1, b2, b3⟩
  | .clz_08 b1 b2 b3 => ⟨0x08, b1, b2, b3⟩
  | .clz_09 b1 b2 b3 => ⟨0x09, b1, b2, b3⟩
  | .exbyte_0a b1 b2 b3 => ⟨0x0a, b1, b2, b3⟩
  | .exbyte_0b b1 b2 b3 => ⟨0x0b, b1, b2, b3⟩
  | .inbyte_0c b1 b2 b3 => ⟨0x0c, b1, b2, b3⟩
  | .inbyte_0d b1 b2 b3 => ⟨0x0d, b1, b2, b3⟩
  | .storel_0e b1 b2 b3 => ⟨0x0e, b1, b2, b3⟩
  | .storel_0f b1 b2 b3 => ⟨0x0f, b1, b2, b3⟩
  | .adds_10 b1 b2 b3 => ⟨0x10, b1, b2, b3⟩
  | .adds_11 b1 b2 b3 => ⟨0x11, b1, b2, b3⟩
  | .addu_12 b1 b2 b3 => ⟨0x12, b1, b2, b3⟩
  | .addu_13 b1 b2 b3 => ⟨0x13, b1, b2, b3⟩
  | .add_14 b1 b2 b3 => ⟨0x14, b1, b2, b3⟩
  | .add_15 b1 b2 b3 => ⟨0x15, b1, b2, b3⟩
  | .load_16 b1 b2 b3 => ⟨0x16, b1, b2, b3⟩
  | .load_17 b1 b2 b3 => ⟨0x17, b1, b2, b3⟩
  | .addcs_18 b1 b2 b3 => ⟨0x18, b1, b2, b3⟩
  | .addcs_19 b1 b2 b3 => ⟨0x19, b1, b2, b3⟩
  | .addcu_1a b1 b2 b3 => ⟨0x1a, b1, b2, b3⟩
  | .addcu_1b b1 b2 b3 => ⟨0x1b, b1, b2, b3⟩
  | .addc_1c b1 b2 b3 => ⟨0x1c, b1, b2, b3⟩
  | .addc_1d b1 b2 b3 => ⟨0x1d, b1, b2, b3⟩
  | .store_1e b1 b2 b3 => ⟨0x1e, b1, b2, b3⟩
  | .store_1f b1 b2 b3 => ⟨0x1f, b1, b2, b3⟩
  | .subs_20 b1 b2 b3 => ⟨0x20, b1, b2, b3⟩
  | .subs_21 b1 b2 b3 => ⟨0x21, b1, b2, b3⟩
  | .subu_22 b1 b2 b3 => ⟨0x22, b1, b2, b3⟩
  | .subu_23 b1 b2 b3 => ⟨0x23, b1, b2, b3⟩
  | .sub_24 b1 b2 b3 => ⟨0x24, b1, b2, b3⟩
  | .sub_25 b1 b2 b3 => ⟨0x25, b1, b2, b3⟩
  | .loadset_26 b1 b2 b3 => ⟨0x26, b1, b2, b3⟩
  | .loadset_27 b1 b2 b3 => ⟨0x27, b1, b2, b3⟩
  | .subcs_28 b1 b2 b3 => ⟨0x28, b1, b2, b3⟩
  | .subcs_29 b1 b2 b3 => ⟨0x29, b1, b2, b3⟩
  | .subcu_2a b1 b2 b3 => ⟨0x2a, b1, b2, b3⟩
  | .subcu_2b b1 b2 b3 => ⟨0x2b, b1, b2, b3⟩
  | .subc_2c b1 b2 b3 => ⟨0x2c, b1, b2, b3⟩
  | .subc_2d b1 b2 b3 => ⟨0x2d, b1, b2, b3⟩
  | .cpbyte_2e b1 b2 b3 => ⟨0x2e, b1, b2, b3⟩
  | .cpbyte_2f b1 b2 b3 => ⟨0x2f, b1, b2, b3⟩
  | .subrs_30 b1 b2 b3 => ⟨0x30, b1, b2, b3⟩
  | .subrs_31 b1 b2 b3 => ⟨0x31, b1, b2, b3⟩
  | .subru_32 b1 b2 b3 => ⟨0x32, b1, b2, b3⟩
  | .subru_33 b1 b2 b3 => ⟨0x33, b1, b2, b3⟩
  | .subr_34 b1 b2 b3 => ⟨0x34, b1, b2, b3⟩
  | .subr_35 b1 b2 b3 => ⟨0x35, b1, b2, b3⟩
  | .loadm_36 b1 b2 b3 => ⟨0x36, b1, b2, b3⟩
  | .loadm_37 b1 b2 b3 => ⟨0x37, b1, b2, b3⟩
  | .subrcs_38 b1 b2 b3 => ⟨0x38, b1, b2, b3⟩
  | .subrcs_39 b1 b2 b3 => ⟨0x39, b1, b2, b3⟩
  | .subrcu_3a b1 b2 b3 => ⟨0x3a, b1, b2, b3⟩
  | .subrcu_3b b1 b2 b3 => ⟨0x3b, b1, b2, b3⟩
  | .subrc_3c b1 b2 b3 => ⟨0x3c, b1, b2, b3⟩
  | .subrc_3d b1 b2 b3 => ⟨0x3d, b1, b2, b3⟩
  | .storem_3e b1 b2 b3 => ⟨0x3e, b1, b2, b3⟩
  | .storem_3f b1 b2 b3 => ⟨0x3f, b1, b2, b3⟩
  | .cplt_40 b1 b2 b3 => ⟨0x40, b1, b2, b3⟩
  | .cplt_41 b1 b2 b3 => ⟨0x41, b1, b2, b3⟩
  | .cpltu_42 b1 b2 b3 => ⟨0x42, b1, b2, b3⟩
  | .cpltu_43 b1 b2 b3 => ⟨0x43, b1, b2, b3⟩
  | .cple_44 b1 b2 b3 => ⟨0x44, b1, b2, b3⟩
  | .cple_45 b1 b2 b3 => ⟨0x45, b1, b2, b3⟩
  | .cpleu_46 b1 b2 b3 => ⟨0x46, b1, b2, b3⟩
  | .cpleu_47 b1 b2 b3 => ⟨0x47, b1, b2, b3⟩
  | .cpgt_48 b1 b2 b3 => ⟨0x48, b1, b2, b3⟩
  | .cpgt_49 b1 b2 b3 => ⟨0x49, b1, b2, b3⟩
  | .cpgtu_4a b1 b2 b3 => ⟨0x4a, b1, b2, b3⟩
  | .cpgtu_4b b1 b2 b3 => ⟨0x4b, b1, b2, b3⟩
  | .cpge_4c b1 b2 b3 => ⟨0x4c, b1, b2, b3⟩
  | .cpge_4d b1 b2 b3 => ⟨0x4d, b1, b2, b3⟩
  | .cpgeu_4e b1 b2 b3 => ⟨0x4e, b1, b2, b3⟩
  | .cpgeu_4f b1 b2 b3 => ⟨0x4f, b1, b2, b3⟩
  | .aslt_50 b1 b2 b3 => ⟨0x50, b1, b2, b3⟩
  | .aslt_51 b1 b2 b3 => ⟨0x51, b1, b2, b3⟩
  | .asltu_52 b1 b2 b3 => ⟨0x52, b1, b2, b3⟩
  | .asltu_53 b1 b2 b3 => ⟨0x53, b1, b2, b3⟩
  | .asle_54 b1 b2 b3 => ⟨0x54, b1, b2, b3⟩
  | .asle_55 b1 b2 b3 => ⟨0x55, b1, b2, b3⟩
  | .asleu_56 b1 b2 b3 => ⟨0x56, b1, b2, b3⟩
  | .asleu_57 b1 b2 b3 => ⟨0x57, b1, b2, b3⟩
  | .asgt_58 b1 b2 b3 => ⟨0x58, b1, b2, b3⟩
  | .asgt_59 b1 b2 b3 => ⟨0x59, b1, b2, b3⟩
  | .asgtu_5a b1 b2 b3 => ⟨0x5a, b1, b2, b3⟩
  | .asgtu_5b b1 b2 b3 => ⟨0x5b, b1, b2, b3⟩
  | .asge_5c b1 b2 b3 => ⟨0x5c, b1, b2, b3⟩
  | .asge_5d b1 b2 b3 => ⟨0x5d, b1, b2, b3⟩
  | .asgeu_5e b1 b2 b3 => ⟨0x5e, b1, b2, b3⟩
  | .asgeu_5f b1 b2 b3 => ⟨0x5f, b1, b2, b3⟩
  | .cpeq_60 b1 b2 b3 => ⟨0x60, b1, b2, b3⟩
  | .cpeq_61 b1 b2 b3 => ⟨0x61, b1, b2, b3⟩
  | .cpneq_62 b1 b2 b3 => ⟨0x62, b1, b2, b3⟩
  | .cpneq_63 b1 b2 b3 => ⟨0x63, b1, b2, b3⟩
  | .mul_64 b1 b2 b3 => ⟨0x64, b1, b2, b3⟩
  | .mul_65 b1 b2 b3 => ⟨0x65, b1, b2, b3⟩
  | .mull_66 b1 b2 b3 => ⟨0x66, b1, b2, b3⟩
  | .mull_67 b1 b2 b3 => ⟨0x67, b1, b2, b3⟩
  | .div0_68 b1 b2 b3 => ⟨0x68, b1, b2, b3⟩
  | .div0_69 b1 b2 b3 => ⟨0x69, b1, b2, b3⟩
  | .div_6a b1 b2 b3 => ⟨0x6a, b1, b2, b3⟩
  | .div_6b b1 b2 b3 => ⟨0x6b, b1, b2, b3⟩
  | .divl_6c b1 b2 b3 => ⟨0x6c, b1, b2, b3⟩
  | .divl_6d b1 b2 b3 => ⟨0x6d, b1, b2, b3⟩
  | .divrem_6e b1 b2 b3 => ⟨0x6e, b1, b2, b3⟩
  | .divrem_6f b1 b2 b3 => ⟨0x6f, b1, b2, b3⟩
  | .aseq_70 b1 b2 b3 => ⟨0x70, b1, b2, b3⟩
  | .aseq_71 b1 b2 b3 => ⟨0x71, b1, b2, b3⟩
  | .asneq_72 b1 b2 b3 => ⟨0x72, b1, b2, b3⟩
  | .asneq_73 b1 b2 b3 => ⟨0x73, b1, b2, b3⟩
  | .mulu_74 b1 b2 b3 => ⟨0x74, b1, b2, b3⟩
  | .mulu_75 b1 b2 b3 => ⟨0x75, b1, b2, b3⟩
  | .inhw_78 b1 b2 b3 => ⟨0x78, b1, b2, b3⟩
  | .inhw_79 b1 b2 b3 => ⟨0x79, b1, b2, b3⟩
  | .extract_7a b1 b2 b3 => ⟨0x7a, b1, b2, b3⟩
  | .extract_7b b1 b2 b3 => ⟨0x7b, b1, b2, b3⟩
  | .exhw_7c b1 b2 b3 => ⟨0x7c, b1, b2, b3⟩
  | .exhw_7d b1 b2 b3 => ⟨0x7d, b1, b2, b3⟩
  | .exhws_7e b1 b2 b3 => ⟨0x7e, b1, b2, b3⟩
  | .sll_80 b1 b2 b3 => ⟨0x80, b1, b2, b3⟩
  | .sll_81 b1 b2 b3 => ⟨0x81, b1, b2, b3⟩
  | .srl_82 b1 b2 b3 => ⟨0x82, b1, b2, b3⟩
  | .srl_83 b1 b2 b3 => ⟨0x83, b1, b2, b3⟩
  | .sra_86 b1 b2 b3 => ⟨0x86, b1, b2, b3⟩
  | .sra_87 b1 b2 b3 => ⟨0x87, b1, b2, b3⟩
  | .iret_88 b1 b2 b3 => ⟨0x88, b1, b2, b3⟩
  | .halt_89 b1 b2 b3 => ⟨0x89, b1, b2, b3⟩
  | .iretinv_8c b1 b2 b3 => ⟨0x8c, b1, b2, b3⟩
  | .and_90 b1 b2 b3 => ⟨0x90, b1, b2, b3⟩
  | .and_91 b1 b2 b3 => ⟨0x91, b1, b2, b3⟩
  | .or_92 b1 b2 b3 => ⟨0x92, b1, b2, b3⟩
  | .or_93 b1 b2 b3 => ⟨0x93, b1, b2, b3⟩
  | .xor_94 b1 b2 b3 => ⟨0x94, b1, b2, b3⟩
  | .xor_95 b1 b2 b3 => ⟨0x95, b1, b2, b3⟩
  | .xnor_96 b1 b2 b3 => ⟨0x96, b1, b2, b3⟩
  | .xnor_97 b1 b2 b3 => ⟨0x97, b1, b2, b3⟩
  | .nor_98 b1 b2 b3 => ⟨0x98, b1, b2, b3⟩
  | .nor_99 b1 b2 b3 => ⟨0x99, b1, b2, b3⟩
  | .nand_9a b1 b2 b3 => ⟨0x9a, b1, b2, b3⟩
  | .nand_9b b1 b2 b3 => ⟨0x9b, b1, b2, b3⟩
  | .andn_9c b1 b2 b3 => ⟨0x9c, b1, b2, b3⟩
  | .andn_9d b1 b2 b3 => ⟨0x9d, b1, b2, b3⟩
  | .setip_9e b1 b2 b3 => ⟨0x9e, b1, b2, b3⟩
  | .inv_9f b1 b2 b3 => ⟨0x9f, b1, b2, b3⟩
  | .jmp_a0 b1 b2 b3 => ⟨0xa0, b1, b2, b3⟩
  | .jmp_a1 b1 b2 b3 => ⟨0xa1, b1, b2, b3⟩
  | .jmpf_a4 b1 b2 b3 => ⟨0xa4, b1, b2, b3⟩
  | .jmpf_a5 b1 b2 b3 => ⟨0xa5, b1, b2, b3⟩
  | .call_a8 b1 b2 b3 => ⟨0xa8, b1, b2, b3⟩
  | .call_a9 b1 b2 b3 => ⟨0xa9, b1, b2, b3⟩
  | .orn_aa b1 b2 b3 => ⟨0xaa, b1, b2, b3⟩
  | .orn_ab b1 b2 b3 => ⟨0xab, b1, b2, b3⟩
  | .jmpt_ac b1 b2 b3 => ⟨0xac, b1, b2, b3⟩
  | .jmpt_ad b1 b2 b3 => ⟨0xad, b1, b2, b3⟩
  | .jmpfdec_b4 b1 b2 b3 => ⟨0xb4, b1, b2, b3⟩
  | .jmpfdec_b5 b1 b2 b3 => ⟨0xb5, b1, b2, b3⟩
  | .mftlb_b6 b1 b2 b3 => ⟨0xb6, b1, b2, b3⟩
  | .mttlb_be b1 b2 b3 => ⟨0xbe, b1, b2, b3⟩
  | .jmpi_c0 b1 b2 b3 => ⟨0xc0, b1, b2, b3⟩
  | .jmpfi_c4 b1 b2 b3 => ⟨0xc4, b1, b2, b3⟩
  | .mfsr_c6 b1 b2 b3 => ⟨0xc6, b1, b2, b3⟩
  | .calli_c8 b1 b2 b3 => ⟨0xc8, b1, b2, b3⟩
  | .jmpti_cc b1 b2 b3 => ⟨0xcc, b1, b2, b3⟩
  | .mtsr_ce b1 b2 b3 => ⟨0xce, b1, b2, b3⟩
  | .emulate_d7 b1 b2 b3 => ⟨0xd7, b1, b2, b3⟩
  | .fmac_d8 b1 b2 b3 => ⟨0xd8, b1, b2, b3⟩
  | .dmac_d9 b1 b2 b3 => ⟨0xd9, b1, b2, b3⟩
  | .fmsm_da b1 b2 b3 => ⟨0xda, b1, b2, b3⟩
  | .dmsm_db b1 b2 b3 => ⟨0xdb, b1, b2, b3⟩
  | .multm_de b1 b2 b3 => ⟨0xde, b1, b2, b3⟩
  | .multmu_df b1 b2 b3 => ⟨0xdf, b1, b2, b3⟩
  | .multiply_e0 b1 b2 b3 => ⟨0xe0, b1, b2, b3⟩
  | .divide_e1 b1 b2 b3 => ⟨0xe1, b1, b2, b3⟩
  | .multiplu_e2 b1 b2 b3 => ⟨0xe2, b1, b2, b3⟩
  | .dividu_e3 b1 b2 b3 => ⟨0xe3, b1, b2, b3⟩
  | .convert_e4 b1 b2 b3 => ⟨0xe4, b1, b2, b3⟩
  | .sqrt_e5 b1 b2 b3 => ⟨0xe5, b1, b2, b3⟩
  | .class_e6 b1 b2 b3 => ⟨0xe6, b1, b2, b3⟩
  | .mtacc_e8 b1 b2 b3 => ⟨0xe8, b1, b2, b3⟩
  | .mfacc_e9 b1 b2 b3 => ⟨0xe9, b1, b2, b3⟩
  | .feq_ea b1 b2 b3 => ⟨0xea, b1, b2, b3⟩
  | .deq_eb b1 b2 b3 => ⟨0xeb, b1, b2, b3⟩
  | .fgt_ec b1 b2 b3 => ⟨0xec, b1, b2, b3⟩
  | .dgt_ed b1 b2 b3 => ⟨0xed, b1, b2, b3⟩
  | .fge_ee b1 b2 b3 => ⟨0xee, b1, b2, b3⟩
  | .dge_ef b1 b2 b3 => ⟨0xef, b1, b2, b3⟩
  | .fadd_f0 b1 b2 b3 => ⟨0xf0, b1, b2, b3⟩
  | .dadd_f1 b1 b2 b3 => ⟨0xf1, b1, b2, b3⟩
  | .fsub_f2 b1 b2 b3 => ⟨0xf2, b1, b2, b3⟩
  | .dsub_f3 b1 b2 b3 => ⟨0xf3, b1, b2, b3⟩
  | .fmul_f4 b1 b2 b3 => ⟨0xf4, b1, b2, b3⟩
  | .dmul_f5 b1 b2 b3 => ⟨0xf5, b1, b2, b3⟩
  | .fdiv_f6 b1 b2 b3 => ⟨0xf6, b1, b2, b3⟩
  | .ddiv_f7 b1 b2 b3 => ⟨0xf7, b1, b2, b3⟩
  | .fdmul_f9 b1 b2 b3 => ⟨0xf9, b1, b2, b3⟩

/-- The parameters and the variant select instruction `i`: its bytes are not the no-op literal and the
scan of its opcode byte gives its entry; the no-op literal needs nothing (R113, R114). -/
def selects (p : Params) (cpuVariant : Option String) (i : Instr) : Bool :=
  match i.entry with
  | none => true
  | some e =>
    encode p i != p.nopLiteral && scan p.compat.admits p.catalog cpuVariant e.opcode == some e

end Sys2Proof
end

