-- ==== Sys2Proof/Machine/State.lean ====
section
/-! DEFINITION. The state of the machine: the open parameters (the Catalog among them), the input ports
and the output ports of the block (spec/10_state.md R13 to R22), as plain data. The block itself keeps
nothing between operations (R13, R29); the ports hold what the caller presents and what the last
operation answered. -/

namespace Sys2Proof.Machine

/-- The semantic type, or tag, of an operand: a closed enumeration of four values (R16). -/
inductive SemType
  | register
  | immediate
  | jumpDisplacement
  | unused
deriving DecidableEq, Repr

/-- An operand: a pair (semantic type, 32-bit value) (R15). -/
structure Operand where
  type : SemType
  value : Word
deriving DecidableEq, Repr

/-- The six operand slots of an instruction, numbered 0 to 5 (R17). -/
structure Slots where
  s0 : Operand
  s1 : Operand
  s2 : Operand
  s3 : Operand
  s4 : Operand
  s5 : Operand
deriving DecidableEq, Repr

/-- A Decoded Instruction: mnemonic, instruction class and six operands (R18). -/
structure DecodedInstr where
  mnemonic : String
  cls : InstrClass
  ops : Slots
deriving DecidableEq, Repr

/-- The result of `decode`: a Decoded Instruction or one of the two errors, never both and never a
part (R14, R117, R160). -/
inductive DecodeResult
  | ok (instr : DecodedInstr)
  | err (error : DecodeError)
deriving DecidableEq, Repr

/-- An output port: `idle` while the operation it belongs to has no result (results do not exist
between operations, R31, R176), `driven` with the operation's result otherwise. -/
inductive Port (α : Type)
  | idle
  | driven (result : α)
deriving DecidableEq, Repr

/-- What the caller asks of the block: `decode` the buffer, with the consumers fed by its result, the
data flow of R46; or `consume` a Decoded Instruction the caller hands over, which need not come from
`decode` (R46, R187). -/
inductive Request
  | decode
  | consume (instr : DecodedInstr)
deriving DecidableEq, Repr

/-- The state of the machine. -/
structure State where
  /-- The open parameters: `opcode_dispatch_rom`, the no-op literal, two mnemonics, `COMPAT` (R8, R176). -/
  params : Params
  /-- Input: the operation the caller asks for (R14). -/
  request : Request
  /-- Input of `decode`: a buffer is present (R14). -/
  bufPresent : Bool
  /-- Input of `decode`: the number of valid bytes in the buffer (R14, R34). -/
  len : Nat
  /-- Input of `decode`: the first four bytes of the buffer (R14, R33). -/
  bytes : Bytes4
  /-- Input of `decode`: the optional CPU-variant string (R22). -/
  cpuVariant : Option String
  /-- Input of `decode`: the place for the result is present (R14). -/
  sinkPresent : Bool
  /-- Input of `resolve_target` and `render`: the instruction's address (R24). -/
  currentAddress : Word
  /-- Input of `render`: the size limit (R14, R149). -/
  bufferSizeHint : Nat
  /-- Output of `decode` (R14). -/
  result : Port DecodeResult
  /-- Output of `resolve_target`: a target or none (R14). -/
  target : Port (Option Word)
  /-- Output of `is_return_equivalent` (R14). -/
  returnEquivalent : Port Bool
  /-- Output of `render`: a text, or no text where the register mapper refuses (R14, R132). -/
  text : Port (Option String)
deriving DecidableEq, Repr

/-- The reasons a step can stop with a fault: none. Every operation ends, on every input, with exactly
one result (R186); the two errors of `decode` are results, not faults (R163). -/
inductive Fault
deriving DecidableEq, Repr

/-- The reasons a step can be refused. -/
inductive Refusal
  /-- An instruction that has no meaning yet, raised by `exec` only (safe). Every instruction has its
  meaning, so no step answers with it. -/
  | notModelled (mnemonic : String)
deriving DecidableEq, Repr

/-- The machine after reset: the parameters at their constant values, no operation done. The spec has
no reset and no value for an input port (R31, R176); the values of the ports are DESIGN CHOICES, see
notes/assumptions/7.md, those of the parameters are named in notes/assumptions/1.md to 5.md. -/
def State.reset : State where
  params := resetParams
  request := .decode
  bufPresent := false
  len := 0
  bytes := ⟨0, 0, 0, 0⟩
  cpuVariant := none
  sinkPresent := true
  currentAddress := 0
  bufferSizeHint := 64
  result := .idle
  target := .idle
  returnEquivalent := .idle
  text := .idle

end Sys2Proof.Machine
end

