-- ==== Sys2Proof/Machine/Operands.lean ====
section
/-! DEFINITION. `operand_tagger`, `bitfield_extract_mux` and `sign_extend_unit`: the operand slots
(spec/40_operand_model.md), the values assembled from the operand bytes, and the 19 decode rules
(spec/41_bitfield_decode_rules.md). Every rule fills the slots through the tagger's operations. -/

namespace Sys2Proof.Machine

/-! ## The operand tagger -/

/-- The unused sentinel `(Unused, 0)` (R17). -/
def Operand.none : Operand := ⟨.unused, 0⟩

/-- Six unused slots. -/
def Slots.allUnused : Slots :=
  ⟨Operand.none, Operand.none, Operand.none, Operand.none, Operand.none, Operand.none⟩

/-- Slot `i` becomes the operand `o`, the other five keep theirs. -/
def Slots.put (ops : Slots) (i : Fin 6) (o : Operand) : Slots :=
  match i with
  | 0 => { ops with s0 := o }
  | 1 => { ops with s1 := o }
  | 2 => { ops with s2 := o }
  | 3 => { ops with s3 := o }
  | 4 => { ops with s4 := o }
  | 5 => { ops with s5 := o }

/-- `ops[i] <- (T, v)`; no relation between `T` and `v` is checked (R70). -/
def Slots.set (ops : Slots) (i : Fin 6) (t : SemType) (v : Word) : Slots :=
  ops.put i ⟨t, v⟩

/-- `ops[i] <- unused` (R71). -/
def Slots.markUnused (ops : Slots) (i : Fin 6) : Slots :=
  ops.put i Operand.none

/-- Slot `i` (R72). -/
def Slots.get (ops : Slots) (i : Fin 6) : Operand :=
  match i with
  | 0 => ops.s0
  | 1 => ops.s1
  | 2 => ops.s2
  | 3 => ops.s3
  | 4 => ops.s4
  | 5 => ops.s5

/-- The six slots in order. -/
def Slots.toList (ops : Slots) : List Operand :=
  [ops.s0, ops.s1, ops.s2, ops.s3, ops.s4, ops.s5]

/-- The operands before the first `Unused` slot, the only ones the consumers look at (R75). -/
def Slots.live (ops : Slots) : List Operand :=
  ops.toList.takeWhile (fun o => o.type != .unused)

/-- The index of the first `Unused` slot, 6 if there is none (R75). -/
def Slots.arity (ops : Slots) : Nat :=
  ops.live.length

/-- The operand-type tuple of slots 0 to arity - 1 (R75). -/
def Slots.shape (ops : Slots) : List SemType :=
  ops.live.map Operand.type

/-! ## Values assembled from the bytes -/

/-- The mode bit `M(b)`, at the position the parameter `M_SEL` gives (R78). This is the one place that
reads it. -/
def modeBit (l : Layout) (b : Bytes4) : Bool :=
  (b.byte l.mSel.byte).getLsbD l.mSel.bit

/-- The bits `hi` to `lo` of a byte, right-justified and zero-extended (R80). -/
def bitField (v : Byte) (hi lo : Nat) : Word :=
  (v.extractLsb hi lo).setWidth 32

/-- A whole byte, zero-extended (R80). -/
def zextByte (v : Byte) : Word :=
  v.setWidth 32

/-- `IMM16(b)`, unsigned (R80). -/
def imm16 (b : Bytes4) : Word :=
  ((b.b1.setWidth 16 <<< 8) ||| b.b3.setWidth 16).setWidth 32

/-- The raw 18-bit displacement field (R79). -/
def rawDisp (b : Bytes4) : BitVec 18 :=
  (b.b1.setWidth 18 <<< 10) ||| (b.b3.setWidth 18 <<< 2)

/-- `sign_extend_unit`: the scaled displacement `D(b)`, bit 17 tested with mask 0x20000 and the high
bits 0xFFFC0000 set if it is 1 (R79). -/
def scaledDisp (b : Bytes4) : Word :=
  let raw := (rawDisp b).setWidth 32
  if raw &&& 0x00020000 ≠ 0 then raw ||| 0xFFFC0000 else raw

/-- The type of an operand the mode bit selects between a register and an immediate (R103). -/
def immediateIfMode (l : Layout) (b : Bytes4) : SemType :=
  if modeBit l b then .immediate else .register

/-- The first of the two 2-bit ranges of byte 3 that the parameter `NARROW_I2_RANGES` gives (R95). -/
def narrowFirst (l : Layout) (b : Bytes4) : Word :=
  bitField b.b3 (l.narrowI2.first + 1) l.narrowI2.first

/-- The second of the two 2-bit ranges of byte 3 (R95). -/
def narrowSecond (l : Layout) (b : Bytes4) : Word :=
  bitField b.b3 (l.narrowI2.second + 1) l.narrowI2.second

/-! ## The rules, each from the slots before it to the slots after it -/

/-- Three-register-plus-immediate-mode (R81). -/
def ruleRRM (l : Layout) (ops : Slots) (b : Bytes4) : Slots :=
  ops.set 0 .register (zextByte b.b1)
    |>.set 1 .register (zextByte b.b2)
    |>.set 2 (immediateIfMode l b) (zextByte b.b3)
    |>.markUnused 3 |>.markUnused 4 |>.markUnused 5

/-- Three-register (R82). -/
def ruleRRR (ops : Slots) (b : Bytes4) : Slots :=
  ops.set 0 .register (zextByte b.b1)
    |>.set 1 .register (zextByte b.b2)
    |>.set 2 .register (zextByte b.b3)
    |>.markUnused 3 |>.markUnused 4 |>.markUnused 5

/-- Register-plus-16-bit-immediate (R83). -/
def ruleRI16 (ops : Slots) (b : Bytes4) : Slots :=
  ops.set 0 .register (zextByte b.b2)
    |>.set 1 .immediate (imm16 b)
    |>.markUnused 2 |>.markUnused 3 |>.markUnused 4 |>.markUnused 5

/-- Register-plus-scaled-displacement: a clear mode bit gives a `JumpDisplacement` (R84). -/
def ruleRDISP (l : Layout) (ops : Slots) (b : Bytes4) : Slots :=
  ops.set 0 .register (zextByte b.b2)
    |>.set 1 (if modeBit l b then .immediate else .jumpDisplacement) (scaledDisp b)
    |>.markUnused 2 |>.markUnused 3 |>.markUnused 4 |>.markUnused 5

/-- Scaled-displacement-only: a set mode bit gives a `JumpDisplacement`, the opposite polarity of
`RDISP` (R85). -/
def ruleDISP (l : Layout) (ops : Slots) (b : Bytes4) : Slots :=
  ops.set 0 (if modeBit l b then .jumpDisplacement else .immediate) (scaledDisp b)
    |>.markUnused 1 |>.markUnused 2 |>.markUnused 3 |>.markUnused 4 |>.markUnused 5

/-- Load/store fields (R86). -/
def ruleLDST (l : Layout) (ops : Slots) (b : Bytes4) : Slots :=
  ops.set 0 .immediate (bitField b.b1 7 7)
    |>.set 1 .immediate (bitField b.b1 6 0)
    |>.set 2 .register (zextByte b.b2)
    |>.set 3 (immediateIfMode l b) (zextByte b.b3)
    |>.markUnused 4 |>.markUnused 5

/-- Indirect-call pair (R87). -/
def ruleICALL (ops : Slots) (b : Bytes4) : Slots :=
  ops.set 0 .register (zextByte b.b2)
    |>.set 1 .register (zextByte b.b3)
    |>.markUnused 2 |>.markUnused 3 |>.markUnused 4 |>.markUnused 5

/-- Register-register-2-bit-immediate (R88). -/
def ruleRRI2 (ops : Slots) (b : Bytes4) : Slots :=
  ops.set 0 .register (zextByte b.b1)
    |>.set 1 .register (zextByte b.b2)
    |>.set 2 .immediate (zextByte (b.b3 &&& 3))
    |>.markUnused 3 |>.markUnused 4 |>.markUnused 5

/-- Count-leading-zero shape (R89). -/
def ruleCLZ (l : Layout) (ops : Slots) (b : Bytes4) : Slots :=
  ops.set 0 .register (zextByte b.b1)
    |>.set 1 (immediateIfMode l b) (zextByte b.b3)
    |>.markUnused 2 |>.markUnused 3 |>.markUnused 4 |>.markUnused 5

/-- Six-field convert shape, the only one that fills all six slots (R90). -/
def ruleCVT6 (ops : Slots) (b : Bytes4) : Slots :=
  ops.set 0 .register (zextByte b.b1)
    |>.set 1 .register (zextByte b.b2)
    |>.set 2 .immediate (bitField b.b3 7 7)
    |>.set 3 .immediate (bitField b.b3 6 4)
    |>.set 4 .immediate (bitField b.b3 3 2)
    |>.set 5 .immediate (bitField b.b3 1 0)

/-- Two-register (rc, ra) (R91). -/
def ruleRCRA (ops : Slots) (b : Bytes4) : Slots :=
  ops.set 0 .register (zextByte b.b1)
    |>.set 1 .register (zextByte b.b2)
    |>.markUnused 2 |>.markUnused 3 |>.markUnused 4 |>.markUnused 5

/-- Multiply-accumulate shape: byte 1 feeds three slots (R92). -/
def ruleMAC (ops : Slots) (b : Bytes4) : Slots :=
  ops.set 0 .immediate (bitField b.b1 5 2)
    |>.set 1 .immediate (bitField b.b1 1 0)
    |>.set 2 .register (zextByte b.b1)
    |>.set 3 .register (zextByte b.b2)
    |>.markUnused 4 |>.markUnused 5

/-- Register pair (ra, rb, non-adjacent bytes) (R93). -/
def ruleR1R3 (ops : Slots) (b : Bytes4) : Slots :=
  ops.set 0 .register (zextByte b.b1)
    |>.set 1 .register (zextByte b.b3)
    |>.markUnused 2 |>.markUnused 3 |>.markUnused 4 |>.markUnused 5

/-- Single register (rb only) (R94). -/
def ruleRB (ops : Slots) (b : Bytes4) : Slots :=
  ops.set 0 .register (zextByte b.b3)
    |>.markUnused 1 |>.markUnused 2 |>.markUnused 3 |>.markUnused 4 |>.markUnused 5

/-- Register-plus-2-immediates (narrow) (R95). -/
def ruleRC_I2I2 (l : Layout) (ops : Slots) (b : Bytes4) : Slots :=
  ops.set 0 .register (zextByte b.b1)
    |>.set 1 .immediate (narrowFirst l b)
    |>.set 2 .immediate (narrowSecond l b)
    |>.markUnused 3 |>.markUnused 4 |>.markUnused 5

/-- Register-plus-2-immediates (ra variant) (R96). -/
def ruleRA_I2I2 (l : Layout) (ops : Slots) (b : Bytes4) : Slots :=
  ops.set 0 .register (zextByte b.b2)
    |>.set 1 .immediate (narrowFirst l b)
    |>.set 2 .immediate (narrowSecond l b)
    |>.markUnused 3 |>.markUnused 4 |>.markUnused 5

/-- Move-from-special-register (R97). -/
def ruleMFSR (ops : Slots) (b : Bytes4) : Slots :=
  ops.set 0 .register (zextByte b.b1)
    |>.set 1 .register (zextByte b.b2)
    |>.markUnused 2 |>.markUnused 3 |>.markUnused 4 |>.markUnused 5

/-- Move-to-special-register (R98). -/
def ruleMTSR (ops : Slots) (b : Bytes4) : Slots :=
  ops.set 0 .register (zextByte b.b2)
    |>.set 1 .register (zextByte b.b3)
    |>.markUnused 2 |>.markUnused 3 |>.markUnused 4 |>.markUnused 5

/-- No operands (R99). -/
def ruleNONE (ops : Slots) (_b : Bytes4) : Slots :=
  ops.markUnused 0 |>.markUnused 1 |>.markUnused 2 |>.markUnused 3 |>.markUnused 4 |>.markUnused 5

/-- The rule of each kind, from the slots under construction (R77, R100); the layout is what two of the
parameters say (R8). -/
def fillSlots (l : Layout) (k : RuleKind) (ops : Slots) (b : Bytes4) : Slots :=
  match k with
  | .RRM => ruleRRM l ops b
  | .RRR => ruleRRR ops b
  | .RI16 => ruleRI16 ops b
  | .RDISP => ruleRDISP l ops b
  | .DISP => ruleDISP l ops b
  | .LDST => ruleLDST l ops b
  | .ICALL => ruleICALL ops b
  | .RRI2 => ruleRRI2 ops b
  | .CLZ => ruleCLZ l ops b
  | .CVT6 => ruleCVT6 ops b
  | .RCRA => ruleRCRA ops b
  | .MAC => ruleMAC ops b
  | .R1R3 => ruleR1R3 ops b
  | .RB => ruleRB ops b
  | .RC_I2I2 => ruleRC_I2I2 l ops b
  | .RA_I2I2 => ruleRA_I2I2 l ops b
  | .MFSR => ruleMFSR ops b
  | .MTSR => ruleMTSR ops b
  | .NONE => ruleNONE ops b

/-- `apply(k, b)` of R111: the six operands kind `k` gives for the bytes `b`. The slots it starts from
make no difference, since every rule sets all six (R74). -/
def applyRule (l : Layout) (k : RuleKind) (b : Bytes4) : Slots :=
  fillSlots l k Slots.allUnused b

end Sys2Proof.Machine
end

