-- ==== Sys2Proof/Machine/ControlFlow.lean ====
section
/-! DEFINITION. `control_flow_target_adder`: branch targets and the return-equivalent test
(spec/43_control_flow.md). Both are defined on every Decoded Instruction (R122, R126). -/

namespace Sys2Proof.Machine

/-- `LINK_REG_VALUE`, the register number of the link-register convention (R8, R25). -/
abbrev linkRegValue : Word := 128

/-- `resolve_target`: the address plus the displacement modulo 2^32, for the two resolvable shapes
only (R123, R124). -/
def resolveTarget (currentAddress : Word) (d : DecodedInstr) : Option Word :=
  match d.ops.shape with
  | [.jumpDisplacement] => some (currentAddress + (d.ops.get 0).value)
  | [.register, .jumpDisplacement] => some (currentAddress + (d.ops.get 1).value)
  | _ => none

/-- `is_return_equivalent`: the indirect-call-pair mnemonic with 128 in slots 0 and 1, whatever their
tags (R126). -/
def isReturnEquivalent (icallMnemonic : String) (d : DecodedInstr) : Bool :=
  d.mnemonic == icallMnemonic && (d.ops.get 0).value == linkRegValue
    && (d.ops.get 1).value == linkRegValue

end Sys2Proof.Machine
end

