-- ==== Sys2Proof/Machine/Render.lean ====
section
/-! DEFINITION. `register_namespace_mapper` and the text renderer (spec/44_text_render.md). Text is
`none` exactly where the spec has a model refuse: a `Register` operand above 255 that reaches the
mapper (R132). -/

namespace Sys2Proof.Machine

/-- The display prefix of a register namespace (R23, R132). -/
inductive RegNamespace
  | gr
  | lr
deriving DecidableEq, Repr

/-- The letters of a namespace tag (R132). -/
def RegNamespace.tag : RegNamespace → String
  | .gr => "gr"
  | .lr => "lr"

/-- `LOCAL_BASE`, the number of the first local register (R8). -/
abbrev localBase : Nat := 128

/-- `LOCAL_DISPLAY_OFFSET`, subtracted to display a local register (R8, R132). -/
abbrev localDisplayOffset : Nat := 127

/-- `REG_SPACE`, the number of register numbers (R8). -/
abbrev regSpace : Nat := 256

/-- `map_reg`: the namespace and the displayed index of a register number; refused above 255 (R132). -/
def mapReg (v : Word) : Option (RegNamespace × Nat) :=
  if v.toNat < localBase then some (.gr, v.toNat)
  else if v.toNat < regSpace then some (.lr, v.toNat - localDisplayOffset)
  else none

/-- A number in decimal, without sign, padding or leading zeros (R133). -/
def decText (n : Nat) : String :=
  String.ofList (Nat.toDigits 10 n)

/-- A number in lower-case hexadecimal, as few digits as it needs, at least one (R147, R148). -/
def hexText (n : Nat) : String :=
  String.ofList (Nat.toDigits 16 n)

/-- `reg_text` (R133). -/
def regText (v : Word) : Option String :=
  (mapReg v).map (fun r => r.1.tag ++ decText r.2)

/-- `imm_text`: the value read as two's complement, a negative one with a leading `-` and its
magnitude (R147). -/
def immText (v : Word) : String :=
  if 0 ≤ v.toInt then "0x" ++ hexText v.toInt.toNat else "-0x" ++ hexText (-v.toInt).toNat

/-- `addr_text`: the address, unsigned (R148). -/
def addrText (a : Word) : String :=
  "0x" ++ hexText a.toNat

/-- The text of one operand by its type: a displacement is printed as the absolute target (R135). An
`Unused` operand has no text and is in no recognised shape. -/
def operandText (currentAddress : Word) (o : Operand) : Option String :=
  match o.type with
  | .register => regText o.value
  | .immediate => some (immText o.value)
  | .jumpDisplacement => some (addrText (currentAddress + o.value))
  | .unused => none

/-- The ten shapes that have a format line (R135 to R145). -/
def recognisedShapes : List (List SemType) :=
  [[.register],
   [.immediate],
   [.jumpDisplacement],
   [.register, .register],
   [.register, .immediate],
   [.register, .jumpDisplacement],
   [.register, .register, .register],
   [.register, .register, .immediate],
   [.immediate, .immediate, .register, .register],
   [.register, .register, .immediate, .immediate, .immediate, .immediate]]

/-- A line: the text so far, then each operand after one space; refused if an operand is (R135). -/
def appendOperands (currentAddress : Word) (line : String) : List Operand → Option String
  | [] => some line
  | o :: rest =>
    match operandText currentAddress o with
    | none => none
    | some t => appendOperands currentAddress (line ++ " " ++ t) rest

/-- `full_text`: the mnemonic and the operands of a recognised shape; the bare mnemonic for any other
(R135, R146). -/
def fullText (currentAddress : Word) (d : DecodedInstr) : Option String :=
  if d.ops.shape ∈ recognisedShapes then appendOperands currentAddress d.mnemonic d.ops.live
  else some d.mnemonic

/-- `TRUNC_RESERVE`, the places of the caller's buffer kept for an end marker (R149). -/
abbrev truncReserve : Nat := 1

/-- `TRUNC`: the first `max(0, n - TRUNC_RESERVE)` characters (R149). -/
def truncText (t : String) (n : Nat) : String :=
  String.ofList (t.toList.take (n - truncReserve))

/-- `render` (R134). -/
def render (bufferSizeHint : Nat) (currentAddress : Word) (d : DecodedInstr) : Option String :=
  (fullText currentAddress d).map (fun t => truncText t bufferSizeHint)

end Sys2Proof.Machine
end

