-- ==== Sys2Proof/Machine/Ops.lean ====
section
/-! DEFINITION. The operations every meaning is made of: driving the output ports with a Decoded
Instruction and what the consumers make of it, reporting an error (the block's only "exception",
spec/60_exceptions.md R163), and fetching the instruction at the input ports. Beside them stand
`decode` as one function of its inputs (spec/42_catalog_dispatch.md R111) and the ROM view (R118). -/

namespace Sys2Proof.Machine

/-- The three consumers' ports for the Decoded Instruction `d`: each reads only its own inputs (R46). -/
def State.driveConsumers (s : State) (d : DecodedInstr) : State :=
  { s with
    target := .driven (resolveTarget s.currentAddress d)
    returnEquivalent := .driven (isReturnEquivalent s.params.icallMnemonic d)
    text := .driven (render s.bufferSizeHint s.currentAddress d) }

/-- `decode` answers `ok(d)` and the consumers take `d`, the data flow of R46. -/
def State.deliver (s : State) (d : DecodedInstr) : State :=
  { s.driveConsumers d with result := .driven (.ok d) }

/-- The consumers take a Decoded Instruction the caller hands over; `decode` is not asked (R46, R187). -/
def State.consume (s : State) (d : DecodedInstr) : State :=
  { s.driveConsumers d with result := .idle }

/-- `raise E`: `decode` answers `err(E)` and nothing else is produced. No state is saved and control
goes nowhere (R11, R160, R163); the consumers have nothing to take. -/
def State.raise (s : State) (e : DecodeError) : State :=
  { s with result := .driven (.err e), target := .idle, returnEquivalent := .idle, text := .idle }

/-- The meaning of a word: mnemonic and class are the entry's, the operands those its rule kind gives
for the bytes (R115). -/
def complete (mnemonic : String) (cls : InstrClass) (k : RuleKind) (b : Bytes4) (s : State) :
    Host.Outcome State Fault Refusal :=
  .next (s.deliver ⟨mnemonic, cls, applyRule s.params.layout k b⟩)

/-- The instruction at the input ports: validation before any byte is read (R112, R162), then the
dispatcher's decoding. -/
def State.fetchInstr (s : State) : Except DecodeError Instr :=
  if inputsOk s.params s.bufPresent s.len s.cpuVariant s.sinkPresent then
    decodeWord s.params s.cpuVariant s.bytes
  else .error .invalidInput

/-- The four bytes `b` presented at the input ports for decoding, with every port the fetch needs: a
request for `decode`, a present buffer of four bytes, a present sink, and no variant in place of a
malformed one. -/
def State.presentWord (s : State) (b : Bytes4) : State :=
  { s with
    request := .decode
    bufPresent := true
    len := minBufferLen
    bytes := b
    sinkPresent := true
    cpuVariant := if variantOk s.params.variantMinLen s.cpuVariant then s.cpuVariant else none }

/-- `decode` as one function of its inputs, its constants and any compatibility check (R111). -/
def decodeWith (compat : Applicability → Option String → Bool) (p : Params) (bufPresent : Bool)
    (len : Nat) (b : Bytes4) (cpuVariant : Option String) (sinkPresent : Bool) : DecodeResult :=
  if !bufPresent || !sinkPresent || decide (len < minBufferLen) then .err .invalidInput
  else if !variantOk p.variantMinLen cpuVariant then .err .invalidInput
  else if b = p.nopLiteral then .ok ⟨p.nopMnemonic, .nop, Slots.allUnused⟩
  else
    match scan compat p.catalog cpuVariant b.b0 with
    | some e => .ok ⟨e.mnemonic, e.cls, applyRule p.layout e.rule b⟩
    | none => .err .unknownOpcode

/-- The ROM view: for each opcode byte, the first matching entry in list order (R118). -/
def romView (compat : Applicability → Option String → Bool) (catalog : List CatalogEntry)
    (cpuVariant : Option String) : List (Option CatalogEntry) :=
  (List.range 256).map (fun x => scan compat catalog cpuVariant (BitVec.ofNat 8 x))

/-- The suggested status code of a result; no rule depends on it (R159). -/
def DecodeResult.status : DecodeResult → BitVec 2
  | .ok _ => 0b00
  | .err .invalidInput => 0b01
  | .err .unknownOpcode => 0b10

end Sys2Proof.Machine
end

