-- ==== Sys2Proof/Machine/AddSubtract.lean ====
section
/-! DEFINITION. The meanings of the rows for integer addition and subtraction: what the block answers for their words. Each
names its mnemonic, class and rule kind as the opcode table has them (rows of 93 G4, PRESUMED, see
notes/assumptions/1.md); the operands are the rule's (spec/41_bitfield_decode_rules.md). -/

namespace Sys2Proof.Machine

/-- adds, opcode 0x10: kind RRM (R81). -/
def execAdds10 (b1 b2 b3 : Byte) (s : State) : Host.Outcome State Fault Refusal :=
  complete "adds" .arithAdd .RRM ⟨0x10, b1, b2, b3⟩ s

/-- adds, opcode 0x11: kind RRM (R81). -/
def execAdds11 (b1 b2 b3 : Byte) (s : State) : Host.Outcome State Fault Refusal :=
  complete "adds" .arithAdd .RRM ⟨0x11, b1, b2, b3⟩ s

/-- addu, opcode 0x12: kind RRM (R81). -/
def execAddu12 (b1 b2 b3 : Byte) (s : State) : Host.Outcome State Fault Refusal :=
  complete "addu" .arithAdd .RRM ⟨0x12, b1, b2, b3⟩ s

/-- addu, opcode 0x13: kind RRM (R81). -/
def execAddu13 (b1 b2 b3 : Byte) (s : State) : Host.Outcome State Fault Refusal :=
  complete "addu" .arithAdd .RRM ⟨0x13, b1, b2, b3⟩ s

/-- add, opcode 0x14: kind RRM (R81). -/
def execAdd14 (b1 b2 b3 : Byte) (s : State) : Host.Outcome State Fault Refusal :=
  complete "add" .arithAdd .RRM ⟨0x14, b1, b2, b3⟩ s

/-- add, opcode 0x15: kind RRM (R81). -/
def execAdd15 (b1 b2 b3 : Byte) (s : State) : Host.Outcome State Fault Refusal :=
  complete "add" .arithAdd .RRM ⟨0x15, b1, b2, b3⟩ s

/-- addcs, opcode 0x18: kind RRM (R81). -/
def execAddcs18 (b1 b2 b3 : Byte) (s : State) : Host.Outcome State Fault Refusal :=
  complete "addcs" .arithAdd .RRM ⟨0x18, b1, b2, b3⟩ s

/-- addcs, opcode 0x19: kind RRM (R81). -/
def execAddcs19 (b1 b2 b3 : Byte) (s : State) : Host.Outcome State Fault Refusal :=
  complete "addcs" .arithAdd .RRM ⟨0x19, b1, b2, b3⟩ s

/-- addcu, opcode 0x1a: kind RRM (R81). -/
def execAddcu1A (b1 b2 b3 : Byte) (s : State) : Host.Outcome State Fault Refusal :=
  complete "addcu" .arithAdd .RRM ⟨0x1a, b1, b2, b3⟩ s

/-- addcu, opcode 0x1b: kind RRM (R81). -/
def execAddcu1B (b1 b2 b3 : Byte) (s : State) : Host.Outcome State Fault Refusal :=
  complete "addcu" .arithAdd .RRM ⟨0x1b, b1, b2, b3⟩ s

/-- addc, opcode 0x1c: kind RRM (R81). -/
def execAddc1C (b1 b2 b3 : Byte) (s : State) : Host.Outcome State Fault Refusal :=
  complete "addc" .arithAdd .RRM ⟨0x1c, b1, b2, b3⟩ s

/-- addc, opcode 0x1d: kind RRM (R81). -/
def execAddc1D (b1 b2 b3 : Byte) (s : State) : Host.Outcome State Fault Refusal :=
  complete "addc" .arithAdd .RRM ⟨0x1d, b1, b2, b3⟩ s

/-- subs, opcode 0x20: kind RRM (R81). -/
def execSubs20 (b1 b2 b3 : Byte) (s : State) : Host.Outcome State Fault Refusal :=
  complete "subs" .arithSub .RRM ⟨0x20, b1, b2, b3⟩ s

/-- subs, opcode 0x21: kind RRM (R81). -/
def execSubs21 (b1 b2 b3 : Byte) (s : State) : Host.Outcome State Fault Refusal :=
  complete "subs" .arithSub .RRM ⟨0x21, b1, b2, b3⟩ s

/-- subu, opcode 0x22: kind RRM (R81). -/
def execSubu22 (b1 b2 b3 : Byte) (s : State) : Host.Outcome State Fault Refusal :=
  complete "subu" .arithSub .RRM ⟨0x22, b1, b2, b3⟩ s

/-- subu, opcode 0x23: kind RRM (R81). -/
def execSubu23 (b1 b2 b3 : Byte) (s : State) : Host.Outcome State Fault Refusal :=
  complete "subu" .arithSub .RRM ⟨0x23, b1, b2, b3⟩ s

/-- sub, opcode 0x24: kind RRM (R81). -/
def execSub24 (b1 b2 b3 : Byte) (s : State) : Host.Outcome State Fault Refusal :=
  complete "sub" .arithSub .RRM ⟨0x24, b1, b2, b3⟩ s

/-- sub, opcode 0x25: kind RRM (R81). -/
def execSub25 (b1 b2 b3 : Byte) (s : State) : Host.Outcome State Fault Refusal :=
  complete "sub" .arithSub .RRM ⟨0x25, b1, b2, b3⟩ s

/-- subcs, opcode 0x28: kind RRM (R81). -/
def execSubcs28 (b1 b2 b3 : Byte) (s : State) : Host.Outcome State Fault Refusal :=
  complete "subcs" .arithSub .RRM ⟨0x28, b1, b2, b3⟩ s

/-- subcs, opcode 0x29: kind RRM (R81). -/
def execSubcs29 (b1 b2 b3 : Byte) (s : State) : Host.Outcome State Fault Refusal :=
  complete "subcs" .arithSub .RRM ⟨0x29, b1, b2, b3⟩ s

/-- subcu, opcode 0x2a: kind RRM (R81). -/
def execSubcu2A (b1 b2 b3 : Byte) (s : State) : Host.Outcome State Fault Refusal :=
  complete "subcu" .arithSub .RRM ⟨0x2a, b1, b2, b3⟩ s

/-- subcu, opcode 0x2b: kind RRM (R81). -/
def execSubcu2B (b1 b2 b3 : Byte) (s : State) : Host.Outcome State Fault Refusal :=
  complete "subcu" .arithSub .RRM ⟨0x2b, b1, b2, b3⟩ s

/-- subc, opcode 0x2c: kind RRM (R81). -/
def execSubc2C (b1 b2 b3 : Byte) (s : State) : Host.Outcome State Fault Refusal :=
  complete "subc" .arithSub .RRM ⟨0x2c, b1, b2, b3⟩ s

/-- subc, opcode 0x2d: kind RRM (R81). -/
def execSubc2D (b1 b2 b3 : Byte) (s : State) : Host.Outcome State Fault Refusal :=
  complete "subc" .arithSub .RRM ⟨0x2d, b1, b2, b3⟩ s

/-- subrs, opcode 0x30: kind RRM (R81). -/
def execSubrs30 (b1 b2 b3 : Byte) (s : State) : Host.Outcome State Fault Refusal :=
  complete "subrs" .arithSub .RRM ⟨0x30, b1, b2, b3⟩ s

/-- subrs, opcode 0x31: kind RRM (R81). -/
def execSubrs31 (b1 b2 b3 : Byte) (s : State) : Host.Outcome State Fault Refusal :=
  complete "subrs" .arithSub .RRM ⟨0x31, b1, b2, b3⟩ s

/-- subru, opcode 0x32: kind RRM (R81). -/
def execSubru32 (b1 b2 b3 : Byte) (s : State) : Host.Outcome State Fault Refusal :=
  complete "subru" .arithSub .RRM ⟨0x32, b1, b2, b3⟩ s

/-- subru, opcode 0x33: kind RRM (R81). -/
def execSubru33 (b1 b2 b3 : Byte) (s : State) : Host.Outcome State Fault Refusal :=
  complete "subru" .arithSub .RRM ⟨0x33, b1, b2, b3⟩ s

/-- subr, opcode 0x34: kind RRM (R81). -/
def execSubr34 (b1 b2 b3 : Byte) (s : State) : Host.Outcome State Fault Refusal :=
  complete "subr" .arithSub .RRM ⟨0x34, b1, b2, b3⟩ s

/-- subr, opcode 0x35: kind RRM (R81). -/
def execSubr35 (b1 b2 b3 : Byte) (s : State) : Host.Outcome State Fault Refusal :=
  complete "subr" .arithSub .RRM ⟨0x35, b1, b2, b3⟩ s

/-- subrcs, opcode 0x38: kind RRM (R81). -/
def execSubrcs38 (b1 b2 b3 : Byte) (s : State) : Host.Outcome State Fault Refusal :=
  complete "subrcs" .arithSub .RRM ⟨0x38, b1, b2, b3⟩ s

/-- subrcs, opcode 0x39: kind RRM (R81). -/
def execSubrcs39 (b1 b2 b3 : Byte) (s : State) : Host.Outcome State Fault Refusal :=
  complete "subrcs" .arithSub .RRM ⟨0x39, b1, b2, b3⟩ s

/-- subrcu, opcode 0x3a: kind RRM (R81). -/
def execSubrcu3A (b1 b2 b3 : Byte) (s : State) : Host.Outcome State Fault Refusal :=
  complete "subrcu" .arithSub .RRM ⟨0x3a, b1, b2, b3⟩ s

/-- subrcu, opcode 0x3b: kind RRM (R81). -/
def execSubrcu3B (b1 b2 b3 : Byte) (s : State) : Host.Outcome State Fault Refusal :=
  complete "subrcu" .arithSub .RRM ⟨0x3b, b1, b2, b3⟩ s

/-- subrc, opcode 0x3c: kind RRM (R81). -/
def execSubrc3C (b1 b2 b3 : Byte) (s : State) : Host.Outcome State Fault Refusal :=
  complete "subrc" .arithSub .RRM ⟨0x3c, b1, b2, b3⟩ s

/-- subrc, opcode 0x3d: kind RRM (R81). -/
def execSubrc3D (b1 b2 b3 : Byte) (s : State) : Host.Outcome State Fault Refusal :=
  complete "subrc" .arithSub .RRM ⟨0x3d, b1, b2, b3⟩ s

end Sys2Proof.Machine
end

