-- ==== Sys2Proof/Machine/Asserts.lean ====
section
/-! DEFINITION. The meanings of the rows for asserts: what the block answers for their words. Each
names its mnemonic, class and rule kind as the opcode table has them (rows of 93 G4, PRESUMED, see
notes/assumptions/1.md); the operands are the rule's (spec/41_bitfield_decode_rules.md). -/

namespace Sys2Proof.Machine

/-- aslt, opcode 0x50: kind RRM (R81). -/
def execAslt50 (b1 b2 b3 : Byte) (s : State) : Host.Outcome State Fault Refusal :=
  complete "aslt" .compare .RRM ⟨0x50, b1, b2, b3⟩ s

/-- aslt, opcode 0x51: kind RRM (R81). -/
def execAslt51 (b1 b2 b3 : Byte) (s : State) : Host.Outcome State Fault Refusal :=
  complete "aslt" .compare .RRM ⟨0x51, b1, b2, b3⟩ s

/-- asltu, opcode 0x52: kind RRM (R81). -/
def execAsltu52 (b1 b2 b3 : Byte) (s : State) : Host.Outcome State Fault Refusal :=
  complete "asltu" .compare .RRM ⟨0x52, b1, b2, b3⟩ s

/-- asltu, opcode 0x53: kind RRM (R81). -/
def execAsltu53 (b1 b2 b3 : Byte) (s : State) : Host.Outcome State Fault Refusal :=
  complete "asltu" .compare .RRM ⟨0x53, b1, b2, b3⟩ s

/-- asle, opcode 0x54: kind RRM (R81). -/
def execAsle54 (b1 b2 b3 : Byte) (s : State) : Host.Outcome State Fault Refusal :=
  complete "asle" .compare .RRM ⟨0x54, b1, b2, b3⟩ s

/-- asle, opcode 0x55: kind RRM (R81). -/
def execAsle55 (b1 b2 b3 : Byte) (s : State) : Host.Outcome State Fault Refusal :=
  complete "asle" .compare .RRM ⟨0x55, b1, b2, b3⟩ s

/-- asleu, opcode 0x56: kind RRM (R81). -/
def execAsleu56 (b1 b2 b3 : Byte) (s : State) : Host.Outcome State Fault Refusal :=
  complete "asleu" .compare .RRM ⟨0x56, b1, b2, b3⟩ s

/-- asleu, opcode 0x57: kind RRM (R81). -/
def execAsleu57 (b1 b2 b3 : Byte) (s : State) : Host.Outcome State Fault Refusal :=
  complete "asleu" .compare .RRM ⟨0x57, b1, b2, b3⟩ s

/-- asgt, opcode 0x58: kind RRM (R81). -/
def execAsgt58 (b1 b2 b3 : Byte) (s : State) : Host.Outcome State Fault Refusal :=
  complete "asgt" .compare .RRM ⟨0x58, b1, b2, b3⟩ s

/-- asgt, opcode 0x59: kind RRM (R81). -/
def execAsgt59 (b1 b2 b3 : Byte) (s : State) : Host.Outcome State Fault Refusal :=
  complete "asgt" .compare .RRM ⟨0x59, b1, b2, b3⟩ s

/-- asgtu, opcode 0x5a: kind RRM (R81). -/
def execAsgtu5A (b1 b2 b3 : Byte) (s : State) : Host.Outcome State Fault Refusal :=
  complete "asgtu" .compare .RRM ⟨0x5a, b1, b2, b3⟩ s

/-- asgtu, opcode 0x5b: kind RRM (R81). -/
def execAsgtu5B (b1 b2 b3 : Byte) (s : State) : Host.Outcome State Fault Refusal :=
  complete "asgtu" .compare .RRM ⟨0x5b, b1, b2, b3⟩ s

/-- asge, opcode 0x5c: kind RRM (R81). -/
def execAsge5C (b1 b2 b3 : Byte) (s : State) : Host.Outcome State Fault Refusal :=
  complete "asge" .compare .RRM ⟨0x5c, b1, b2, b3⟩ s

/-- asge, opcode 0x5d: kind RRM (R81). -/
def execAsge5D (b1 b2 b3 : Byte) (s : State) : Host.Outcome State Fault Refusal :=
  complete "asge" .compare .RRM ⟨0x5d, b1, b2, b3⟩ s

/-- asgeu, opcode 0x5e: kind RRM (R81). -/
def execAsgeu5E (b1 b2 b3 : Byte) (s : State) : Host.Outcome State Fault Refusal :=
  complete "asgeu" .compare .RRM ⟨0x5e, b1, b2, b3⟩ s

/-- asgeu, opcode 0x5f: kind RRM (R81). -/
def execAsgeu5F (b1 b2 b3 : Byte) (s : State) : Host.Outcome State Fault Refusal :=
  complete "asgeu" .compare .RRM ⟨0x5f, b1, b2, b3⟩ s

/-- aseq, opcode 0x70: kind RRM (R81). -/
def execAseq70 (b1 b2 b3 : Byte) (s : State) : Host.Outcome State Fault Refusal :=
  complete "aseq" .compare .RRM ⟨0x70, b1, b2, b3⟩ s

/-- aseq, opcode 0x71: kind RRM (R81). -/
def execAseq71 (b1 b2 b3 : Byte) (s : State) : Host.Outcome State Fault Refusal :=
  complete "aseq" .compare .RRM ⟨0x71, b1, b2, b3⟩ s

/-- asneq, opcode 0x72: kind RRM (R81). -/
def execAsneq72 (b1 b2 b3 : Byte) (s : State) : Host.Outcome State Fault Refusal :=
  complete "asneq" .compare .RRM ⟨0x72, b1, b2, b3⟩ s

/-- asneq, opcode 0x73: kind RRM (R81). -/
def execAsneq73 (b1 b2 b3 : Byte) (s : State) : Host.Outcome State Fault Refusal :=
  complete "asneq" .compare .RRM ⟨0x73, b1, b2, b3⟩ s

end Sys2Proof.Machine
end

