-- ==== Sys2Proof/Machine/CatalogRows.lean ====
section
/-! DEFINITION. The meanings of the normative rows of the opcode table: the attested entry (R108), the
no-op literal (R113), and a Catalog Entry of each of the 19 rule kinds, whose mnemonic and class are
copied unchanged from the entry (R115). -/

namespace Sys2Proof.Machine

/-- Row 0, the attested entry: opcode 0x14, kind RRM (R81, R108). -/
def execAttested14 (mnemonic : String) (cls : InstrClass) (b1 b2 b3 : Byte) (s : State) :
    Host.Outcome State Fault Refusal :=
  complete mnemonic cls .RRM ⟨0x14, b1, b2, b3⟩ s

/-- Row 1, the no-op literal: mnemonic `NOP_MNEMONIC`, class `Nop`, no operands, no Catalog Entry (R113). -/
def execNopLiteral (s : State) : Host.Outcome State Fault Refusal :=
  .next (s.deliver ⟨s.params.nopMnemonic, .nop, Slots.allUnused⟩)

/-- A word of a Catalog Entry of kind RRM (R81, R115). -/
def execAnyRRM (e : EntryHead) (b1 b2 b3 : Byte) (s : State) : Host.Outcome State Fault Refusal :=
  complete e.mnemonic e.cls .RRM ⟨e.opcode, b1, b2, b3⟩ s

/-- A word of a Catalog Entry of kind RRR (R82, R115). -/
def execAnyRRR (e : EntryHead) (b1 b2 b3 : Byte) (s : State) : Host.Outcome State Fault Refusal :=
  complete e.mnemonic e.cls .RRR ⟨e.opcode, b1, b2, b3⟩ s

/-- A word of a Catalog Entry of kind RI16 (R83, R115). -/
def execAnyRI16 (e : EntryHead) (b1 b2 b3 : Byte) (s : State) : Host.Outcome State Fault Refusal :=
  complete e.mnemonic e.cls .RI16 ⟨e.opcode, b1, b2, b3⟩ s

/-- A word of a Catalog Entry of kind RDISP (R84, R115). -/
def execAnyRDISP (e : EntryHead) (b1 b2 b3 : Byte) (s : State) : Host.Outcome State Fault Refusal :=
  complete e.mnemonic e.cls .RDISP ⟨e.opcode, b1, b2, b3⟩ s

/-- A word of a Catalog Entry of kind DISP (R85, R115). -/
def execAnyDISP (e : EntryHead) (b1 b2 b3 : Byte) (s : State) : Host.Outcome State Fault Refusal :=
  complete e.mnemonic e.cls .DISP ⟨e.opcode, b1, b2, b3⟩ s

/-- A word of a Catalog Entry of kind LDST (R86, R115). -/
def execAnyLDST (e : EntryHead) (b1 b2 b3 : Byte) (s : State) : Host.Outcome State Fault Refusal :=
  complete e.mnemonic e.cls .LDST ⟨e.opcode, b1, b2, b3⟩ s

/-- A word of a Catalog Entry of kind ICALL (R87, R115). -/
def execAnyICALL (e : EntryHead) (b1 b2 b3 : Byte) (s : State) : Host.Outcome State Fault Refusal :=
  complete e.mnemonic e.cls .ICALL ⟨e.opcode, b1, b2, b3⟩ s

/-- A word of a Catalog Entry of kind RRI2 (R88, R115). -/
def execAnyRRI2 (e : EntryHead) (b1 b2 b3 : Byte) (s : State) : Host.Outcome State Fault Refusal :=
  complete e.mnemonic e.cls .RRI2 ⟨e.opcode, b1, b2, b3⟩ s

/-- A word of a Catalog Entry of kind CLZ (R89, R115). -/
def execAnyCLZ (e : EntryHead) (b1 b2 b3 : Byte) (s : State) : Host.Outcome State Fault Refusal :=
  complete e.mnemonic e.cls .CLZ ⟨e.opcode, b1, b2, b3⟩ s

/-- A word of a Catalog Entry of kind CVT6 (R90, R115). -/
def execAnyCVT6 (e : EntryHead) (b1 b2 b3 : Byte) (s : State) : Host.Outcome State Fault Refusal :=
  complete e.mnemonic e.cls .CVT6 ⟨e.opcode, b1, b2, b3⟩ s

/-- A word of a Catalog Entry of kind RCRA (R91, R115). -/
def execAnyRCRA (e : EntryHead) (b1 b2 b3 : Byte) (s : State) : Host.Outcome State Fault Refusal :=
  complete e.mnemonic e.cls .RCRA ⟨e.opcode, b1, b2, b3⟩ s

/-- A word of a Catalog Entry of kind MAC (R92, R115). -/
def execAnyMAC (e : EntryHead) (b1 b2 b3 : Byte) (s : State) : Host.Outcome State Fault Refusal :=
  complete e.mnemonic e.cls .MAC ⟨e.opcode, b1, b2, b3⟩ s

/-- A word of a Catalog Entry of kind R1R3 (R93, R115). -/
def execAnyR1R3 (e : EntryHead) (b1 b2 b3 : Byte) (s : State) : Host.Outcome State Fault Refusal :=
  complete e.mnemonic e.cls .R1R3 ⟨e.opcode, b1, b2, b3⟩ s

/-- A word of a Catalog Entry of kind RB (R94, R115). -/
def execAnyRB (e : EntryHead) (b1 b2 b3 : Byte) (s : State) : Host.Outcome State Fault Refusal :=
  complete e.mnemonic e.cls .RB ⟨e.opcode, b1, b2, b3⟩ s

/-- A word of a Catalog Entry of kind RC_I2I2 (R95, R115). -/
def execAnyRC_I2I2 (e : EntryHead) (b1 b2 b3 : Byte) (s : State) : Host.Outcome State Fault Refusal :=
  complete e.mnemonic e.cls .RC_I2I2 ⟨e.opcode, b1, b2, b3⟩ s

/-- A word of a Catalog Entry of kind RA_I2I2 (R96, R115). -/
def execAnyRA_I2I2 (e : EntryHead) (b1 b2 b3 : Byte) (s : State) : Host.Outcome State Fault Refusal :=
  complete e.mnemonic e.cls .RA_I2I2 ⟨e.opcode, b1, b2, b3⟩ s

/-- A word of a Catalog Entry of kind MFSR (R97, R115). -/
def execAnyMFSR (e : EntryHead) (b1 b2 b3 : Byte) (s : State) : Host.Outcome State Fault Refusal :=
  complete e.mnemonic e.cls .MFSR ⟨e.opcode, b1, b2, b3⟩ s

/-- A word of a Catalog Entry of kind MTSR (R98, R115). -/
def execAnyMTSR (e : EntryHead) (b1 b2 b3 : Byte) (s : State) : Host.Outcome State Fault Refusal :=
  complete e.mnemonic e.cls .MTSR ⟨e.opcode, b1, b2, b3⟩ s

/-- A word of a Catalog Entry of kind NONE (R99, R115). -/
def execAnyNONE (e : EntryHead) (b1 b2 b3 : Byte) (s : State) : Host.Outcome State Fault Refusal :=
  complete e.mnemonic e.cls .NONE ⟨e.opcode, b1, b2, b3⟩ s

end Sys2Proof.Machine
end

