-- ==== Sys2Proof/Machine/Compares.lean ====
section
/-! DEFINITION. The meanings of the rows for integer compares: what the block answers for their words. Each
names its mnemonic, class and rule kind as the opcode table has them (rows of 93 G4, PRESUMED, see
notes/assumptions/1.md); the operands are the rule's (spec/41_bitfield_decode_rules.md). -/

namespace Sys2Proof.Machine

/-- cpbyte, opcode 0x2e: kind RRM (R81). -/
def execCpbyte2E (b1 b2 b3 : Byte) (s : State) : Host.Outcome State Fault Refusal :=
  complete "cpbyte" .compare .RRM ⟨0x2e, b1, b2, b3⟩ s

/-- cpbyte, opcode 0x2f: kind RRM (R81). -/
def execCpbyte2F (b1 b2 b3 : Byte) (s : State) : Host.Outcome State Fault Refusal :=
  complete "cpbyte" .compare .RRM ⟨0x2f, b1, b2, b3⟩ s

/-- cplt, opcode 0x40: kind RRM (R81). -/
def execCplt40 (b1 b2 b3 : Byte) (s : State) : Host.Outcome State Fault Refusal :=
  complete "cplt" .compare .RRM ⟨0x40, b1, b2, b3⟩ s

/-- cplt, opcode 0x41: kind RRM (R81). -/
def execCplt41 (b1 b2 b3 : Byte) (s : State) : Host.Outcome State Fault Refusal :=
  complete "cplt" .compare .RRM ⟨0x41, b1, b2, b3⟩ s

/-- cpltu, opcode 0x42: kind RRM (R81). -/
def execCpltu42 (b1 b2 b3 : Byte) (s : State) : Host.Outcome State Fault Refusal :=
  complete "cpltu" .compare .RRM ⟨0x42, b1, b2, b3⟩ s

/-- cpltu, opcode 0x43: kind RRM (R81). -/
def execCpltu43 (b1 b2 b3 : Byte) (s : State) : Host.Outcome State Fault Refusal :=
  complete "cpltu" .compare .RRM ⟨0x43, b1, b2, b3⟩ s

/-- cple, opcode 0x44: kind RRM (R81). -/
def execCple44 (b1 b2 b3 : Byte) (s : State) : Host.Outcome State Fault Refusal :=
  complete "cple" .compare .RRM ⟨0x44, b1, b2, b3⟩ s

/-- cple, opcode 0x45: kind RRM (R81). -/
def execCple45 (b1 b2 b3 : Byte) (s : State) : Host.Outcome State Fault Refusal :=
  complete "cple" .compare .RRM ⟨0x45, b1, b2, b3⟩ s

/-- cpleu, opcode 0x46: kind RRM (R81). -/
def execCpleu46 (b1 b2 b3 : Byte) (s : State) : Host.Outcome State Fault Refusal :=
  complete "cpleu" .compare .RRM ⟨0x46, b1, b2, b3⟩ s

/-- cpleu, opcode 0x47: kind RRM (R81). -/
def execCpleu47 (b1 b2 b3 : Byte) (s : State) : Host.Outcome State Fault Refusal :=
  complete "cpleu" .compare .RRM ⟨0x47, b1, b2, b3⟩ s

/-- cpgt, opcode 0x48: kind RRM (R81). -/
def execCpgt48 (b1 b2 b3 : Byte) (s : State) : Host.Outcome State Fault Refusal :=
  complete "cpgt" .compare .RRM ⟨0x48, b1, b2, b3⟩ s

/-- cpgt, opcode 0x49: kind RRM (R81). -/
def execCpgt49 (b1 b2 b3 : Byte) (s : State) : Host.Outcome State Fault Refusal :=
  complete "cpgt" .compare .RRM ⟨0x49, b1, b2, b3⟩ s

/-- cpgtu, opcode 0x4a: kind RRM (R81). -/
def execCpgtu4A (b1 b2 b3 : Byte) (s : State) : Host.Outcome State Fault Refusal :=
  complete "cpgtu" .compare .RRM ⟨0x4a, b1, b2, b3⟩ s

/-- cpgtu, opcode 0x4b: kind RRM (R81). -/
def execCpgtu4B (b1 b2 b3 : Byte) (s : State) : Host.Outcome State Fault Refusal :=
  complete "cpgtu" .compare .RRM ⟨0x4b, b1, b2, b3⟩ s

/-- cpge, opcode 0x4c: kind RRM (R81). -/
def execCpge4C (b1 b2 b3 : Byte) (s : State) : Host.Outcome State Fault Refusal :=
  complete "cpge" .compare .RRM ⟨0x4c, b1, b2, b3⟩ s

/-- cpge, opcode 0x4d: kind RRM (R81). -/
def execCpge4D (b1 b2 b3 : Byte) (s : State) : Host.Outcome State Fault Refusal :=
  complete "cpge" .compare .RRM ⟨0x4d, b1, b2, b3⟩ s

/-- cpgeu, opcode 0x4e: kind RRM (R81). -/
def execCpgeu4E (b1 b2 b3 : Byte) (s : State) : Host.Outcome State Fault Refusal :=
  complete "cpgeu" .compare .RRM ⟨0x4e, b1, b2, b3⟩ s

/-- cpgeu, opcode 0x4f: kind RRM (R81). -/
def execCpgeu4F (b1 b2 b3 : Byte) (s : State) : Host.Outcome State Fault Refusal :=
  complete "cpgeu" .compare .RRM ⟨0x4f, b1, b2, b3⟩ s

/-- cpeq, opcode 0x60: kind RRM (R81). -/
def execCpeq60 (b1 b2 b3 : Byte) (s : State) : Host.Outcome State Fault Refusal :=
  complete "cpeq" .compare .RRM ⟨0x60, b1, b2, b3⟩ s

/-- cpeq, opcode 0x61: kind RRM (R81). -/
def execCpeq61 (b1 b2 b3 : Byte) (s : State) : Host.Outcome State Fault Refusal :=
  complete "cpeq" .compare .RRM ⟨0x61, b1, b2, b3⟩ s

/-- cpneq, opcode 0x62: kind RRM (R81). -/
def execCpneq62 (b1 b2 b3 : Byte) (s : State) : Host.Outcome State Fault Refusal :=
  complete "cpneq" .compare .RRM ⟨0x62, b1, b2, b3⟩ s

/-- cpneq, opcode 0x63: kind RRM (R81). -/
def execCpneq63 (b1 b2 b3 : Byte) (s : State) : Host.Outcome State Fault Refusal :=
  complete "cpneq" .compare .RRM ⟨0x63, b1, b2, b3⟩ s

end Sys2Proof.Machine
end

