-- ==== Sys2Proof/Machine/ConstMove.lean ====
section
/-! DEFINITION. The meanings of the rows for constants, special registers, translation buffer and accumulator moves: what the block answers for their words. Each
names its mnemonic, class and rule kind as the opcode table has them (rows of 93 G4, PRESUMED, see
notes/assumptions/1.md); the operands are the rule's (spec/41_bitfield_decode_rules.md). -/

namespace Sys2Proof.Machine

/-- constn, opcode 0x01: kind RI16 (R83). -/
def execConstn01 (b1 b2 b3 : Byte) (s : State) : Host.Outcome State Fault Refusal :=
  complete "constn" .move .RI16 ⟨0x01, b1, b2, b3⟩ s

/-- consth, opcode 0x02: kind RI16 (R83). -/
def execConsth02 (b1 b2 b3 : Byte) (s : State) : Host.Outcome State Fault Refusal :=
  complete "consth" .move .RI16 ⟨0x02, b1, b2, b3⟩ s

/-- const, opcode 0x03: kind RI16 (R83). -/
def execConst03 (b1 b2 b3 : Byte) (s : State) : Host.Outcome State Fault Refusal :=
  complete "const" .move .RI16 ⟨0x03, b1, b2, b3⟩ s

/-- mtsrim, opcode 0x04: kind RI16 (R83). -/
def execMtsrim04 (b1 b2 b3 : Byte) (s : State) : Host.Outcome State Fault Refusal :=
  complete "mtsrim" .move .RI16 ⟨0x04, b1, b2, b3⟩ s

/-- consthz, opcode 0x05: kind RI16 (R83). -/
def execConsthz05 (b1 b2 b3 : Byte) (s : State) : Host.Outcome State Fault Refusal :=
  complete "consthz" .move .RI16 ⟨0x05, b1, b2, b3⟩ s

/-- mftlb, opcode 0xb6: kind RCRA (R91). -/
def execMftlbB6 (b1 b2 b3 : Byte) (s : State) : Host.Outcome State Fault Refusal :=
  complete "mftlb" .move .RCRA ⟨0xb6, b1, b2, b3⟩ s

/-- mttlb, opcode 0xbe: kind ICALL (R87). -/
def execMttlbBE (b1 b2 b3 : Byte) (s : State) : Host.Outcome State Fault Refusal :=
  complete "mttlb" .move .ICALL ⟨0xbe, b1, b2, b3⟩ s

/-- mfsr, opcode 0xc6: kind MFSR (R97). -/
def execMfsrC6 (b1 b2 b3 : Byte) (s : State) : Host.Outcome State Fault Refusal :=
  complete "mfsr" .move .MFSR ⟨0xc6, b1, b2, b3⟩ s

/-- mtsr, opcode 0xce: kind MTSR (R98). -/
def execMtsrCE (b1 b2 b3 : Byte) (s : State) : Host.Outcome State Fault Refusal :=
  complete "mtsr" .move .MTSR ⟨0xce, b1, b2, b3⟩ s

/-- mtacc, opcode 0xe8: kind RA_I2I2 (R96). -/
def execMtaccE8 (b1 b2 b3 : Byte) (s : State) : Host.Outcome State Fault Refusal :=
  complete "mtacc" .move .RA_I2I2 ⟨0xe8, b1, b2, b3⟩ s

/-- mfacc, opcode 0xe9: kind RC_I2I2 (R95). -/
def execMfaccE9 (b1 b2 b3 : Byte) (s : State) : Host.Outcome State Fault Refusal :=
  complete "mfacc" .move .RC_I2I2 ⟨0xe9, b1, b2, b3⟩ s

end Sys2Proof.Machine
end

