-- ==== Sys2Proof/Machine/ControlTransfer.lean ====
section
/-! DEFINITION. The meanings of the rows for jumps and calls: what the block answers for their words. Each
names its mnemonic, class and rule kind as the opcode table has them (rows of 93 G4, PRESUMED, see
notes/assumptions/1.md); the operands are the rule's (spec/41_bitfield_decode_rules.md). -/

namespace Sys2Proof.Machine

/-- jmp, opcode 0xa0: kind DISP (R85). -/
def execJmpA0 (b1 b2 b3 : Byte) (s : State) : Host.Outcome State Fault Refusal :=
  complete "jmp" .jump .DISP ⟨0xa0, b1, b2, b3⟩ s

/-- jmp, opcode 0xa1: kind DISP (R85). -/
def execJmpA1 (b1 b2 b3 : Byte) (s : State) : Host.Outcome State Fault Refusal :=
  complete "jmp" .jump .DISP ⟨0xa1, b1, b2, b3⟩ s

/-- jmpf, opcode 0xa4: kind RDISP (R84). -/
def execJmpfA4 (b1 b2 b3 : Byte) (s : State) : Host.Outcome State Fault Refusal :=
  complete "jmpf" .condJump .RDISP ⟨0xa4, b1, b2, b3⟩ s

/-- jmpf, opcode 0xa5: kind RDISP (R84). -/
def execJmpfA5 (b1 b2 b3 : Byte) (s : State) : Host.Outcome State Fault Refusal :=
  complete "jmpf" .condJump .RDISP ⟨0xa5, b1, b2, b3⟩ s

/-- call, opcode 0xa8: kind RDISP (R84). -/
def execCallA8 (b1 b2 b3 : Byte) (s : State) : Host.Outcome State Fault Refusal :=
  complete "call" .call .RDISP ⟨0xa8, b1, b2, b3⟩ s

/-- call, opcode 0xa9: kind RDISP (R84). -/
def execCallA9 (b1 b2 b3 : Byte) (s : State) : Host.Outcome State Fault Refusal :=
  complete "call" .call .RDISP ⟨0xa9, b1, b2, b3⟩ s

/-- jmpt, opcode 0xac: kind RDISP (R84). -/
def execJmptAC (b1 b2 b3 : Byte) (s : State) : Host.Outcome State Fault Refusal :=
  complete "jmpt" .condJump .RDISP ⟨0xac, b1, b2, b3⟩ s

/-- jmpt, opcode 0xad: kind RDISP (R84). -/
def execJmptAD (b1 b2 b3 : Byte) (s : State) : Host.Outcome State Fault Refusal :=
  complete "jmpt" .condJump .RDISP ⟨0xad, b1, b2, b3⟩ s

/-- jmpfdec, opcode 0xb4: kind RDISP (R84). -/
def execJmpfdecB4 (b1 b2 b3 : Byte) (s : State) : Host.Outcome State Fault Refusal :=
  complete "jmpfdec" .condJump .RDISP ⟨0xb4, b1, b2, b3⟩ s

/-- jmpfdec, opcode 0xb5: kind RDISP (R84). -/
def execJmpfdecB5 (b1 b2 b3 : Byte) (s : State) : Host.Outcome State Fault Refusal :=
  complete "jmpfdec" .condJump .RDISP ⟨0xb5, b1, b2, b3⟩ s

/-- jmpi, opcode 0xc0: kind RB (R94). -/
def execJmpiC0 (b1 b2 b3 : Byte) (s : State) : Host.Outcome State Fault Refusal :=
  complete "jmpi" .indirectJump .RB ⟨0xc0, b1, b2, b3⟩ s

/-- jmpfi, opcode 0xc4: kind ICALL (R87). -/
def execJmpfiC4 (b1 b2 b3 : Byte) (s : State) : Host.Outcome State Fault Refusal :=
  complete "jmpfi" .condJump .ICALL ⟨0xc4, b1, b2, b3⟩ s

/-- calli, opcode 0xc8: kind ICALL (R87). -/
def execCalliC8 (b1 b2 b3 : Byte) (s : State) : Host.Outcome State Fault Refusal :=
  complete "calli" .indirectCall .ICALL ⟨0xc8, b1, b2, b3⟩ s

/-- jmpti, opcode 0xcc: kind ICALL (R87). -/
def execJmptiCC (b1 b2 b3 : Byte) (s : State) : Host.Outcome State Fault Refusal :=
  complete "jmpti" .condJump .ICALL ⟨0xcc, b1, b2, b3⟩ s

end Sys2Proof.Machine
end

