-- ==== Sys2Proof/Machine/FloatingPoint.lean ====
section
/-! DEFINITION. The meanings of the rows for floating-point arithmetic, compares, conversions and multiply-accumulate: what the block answers for their words. Each
names its mnemonic, class and rule kind as the opcode table has them (rows of 93 G4, PRESUMED, see
notes/assumptions/1.md); the operands are the rule's (spec/41_bitfield_decode_rules.md). -/

namespace Sys2Proof.Machine

/-- fmac, opcode 0xd8: kind MAC (R92). -/
def execFmacD8 (b1 b2 b3 : Byte) (s : State) : Host.Outcome State Fault Refusal :=
  complete "fmac" .arithMul .MAC ⟨0xd8, b1, b2, b3⟩ s

/-- dmac, opcode 0xd9: kind MAC (R92). -/
def execDmacD9 (b1 b2 b3 : Byte) (s : State) : Host.Outcome State Fault Refusal :=
  complete "dmac" .arithMul .MAC ⟨0xd9, b1, b2, b3⟩ s

/-- fmsm, opcode 0xda: kind MAC (R92). -/
def execFmsmDA (b1 b2 b3 : Byte) (s : State) : Host.Outcome State Fault Refusal :=
  complete "fmsm" .arithMul .MAC ⟨0xda, b1, b2, b3⟩ s

/-- dmsm, opcode 0xdb: kind MAC (R92). -/
def execDmsmDB (b1 b2 b3 : Byte) (s : State) : Host.Outcome State Fault Refusal :=
  complete "dmsm" .arithMul .MAC ⟨0xdb, b1, b2, b3⟩ s

/-- convert, opcode 0xe4: kind CVT6 (R90). -/
def execConvertE4 (b1 b2 b3 : Byte) (s : State) : Host.Outcome State Fault Refusal :=
  complete "convert" .unclassified .CVT6 ⟨0xe4, b1, b2, b3⟩ s

/-- sqrt, opcode 0xe5: kind RRI2 (R88). -/
def execSqrtE5 (b1 b2 b3 : Byte) (s : State) : Host.Outcome State Fault Refusal :=
  complete "sqrt" .unclassified .RRI2 ⟨0xe5, b1, b2, b3⟩ s

/-- class, opcode 0xe6: kind RRI2 (R88). -/
def execClassE6 (b1 b2 b3 : Byte) (s : State) : Host.Outcome State Fault Refusal :=
  complete "class" .unclassified .RRI2 ⟨0xe6, b1, b2, b3⟩ s

/-- feq, opcode 0xea: kind RRR (R82). -/
def execFeqEA (b1 b2 b3 : Byte) (s : State) : Host.Outcome State Fault Refusal :=
  complete "feq" .compare .RRR ⟨0xea, b1, b2, b3⟩ s

/-- deq, opcode 0xeb: kind RRR (R82). -/
def execDeqEB (b1 b2 b3 : Byte) (s : State) : Host.Outcome State Fault Refusal :=
  complete "deq" .compare .RRR ⟨0xeb, b1, b2, b3⟩ s

/-- fgt, opcode 0xec: kind RRR (R82). -/
def execFgtEC (b1 b2 b3 : Byte) (s : State) : Host.Outcome State Fault Refusal :=
  complete "fgt" .compare .RRR ⟨0xec, b1, b2, b3⟩ s

/-- dgt, opcode 0xed: kind RRR (R82). -/
def execDgtED (b1 b2 b3 : Byte) (s : State) : Host.Outcome State Fault Refusal :=
  complete "dgt" .compare .RRR ⟨0xed, b1, b2, b3⟩ s

/-- fge, opcode 0xee: kind RRR (R82). -/
def execFgeEE (b1 b2 b3 : Byte) (s : State) : Host.Outcome State Fault Refusal :=
  complete "fge" .compare .RRR ⟨0xee, b1, b2, b3⟩ s

/-- dge, opcode 0xef: kind RRR (R82). -/
def execDgeEF (b1 b2 b3 : Byte) (s : State) : Host.Outcome State Fault Refusal :=
  complete "dge" .compare .RRR ⟨0xef, b1, b2, b3⟩ s

/-- fadd, opcode 0xf0: kind RRR (R82). -/
def execFaddF0 (b1 b2 b3 : Byte) (s : State) : Host.Outcome State Fault Refusal :=
  complete "fadd" .arithAdd .RRR ⟨0xf0, b1, b2, b3⟩ s

/-- dadd, opcode 0xf1: kind RRR (R82). -/
def execDaddF1 (b1 b2 b3 : Byte) (s : State) : Host.Outcome State Fault Refusal :=
  complete "dadd" .arithAdd .RRR ⟨0xf1, b1, b2, b3⟩ s

/-- fsub, opcode 0xf2: kind RRR (R82). -/
def execFsubF2 (b1 b2 b3 : Byte) (s : State) : Host.Outcome State Fault Refusal :=
  complete "fsub" .arithSub .RRR ⟨0xf2, b1, b2, b3⟩ s

/-- dsub, opcode 0xf3: kind RRR (R82). -/
def execDsubF3 (b1 b2 b3 : Byte) (s : State) : Host.Outcome State Fault Refusal :=
  complete "dsub" .arithSub .RRR ⟨0xf3, b1, b2, b3⟩ s

/-- fmul, opcode 0xf4: kind RRR (R82). -/
def execFmulF4 (b1 b2 b3 : Byte) (s : State) : Host.Outcome State Fault Refusal :=
  complete "fmul" .arithMul .RRR ⟨0xf4, b1, b2, b3⟩ s

/-- dmul, opcode 0xf5: kind RRR (R82). -/
def execDmulF5 (b1 b2 b3 : Byte) (s : State) : Host.Outcome State Fault Refusal :=
  complete "dmul" .arithMul .RRR ⟨0xf5, b1, b2, b3⟩ s

/-- fdiv, opcode 0xf6: kind RRR (R82). -/
def execFdivF6 (b1 b2 b3 : Byte) (s : State) : Host.Outcome State Fault Refusal :=
  complete "fdiv" .arithDiv .RRR ⟨0xf6, b1, b2, b3⟩ s

/-- ddiv, opcode 0xf7: kind RRR (R82). -/
def execDdivF7 (b1 b2 b3 : Byte) (s : State) : Host.Outcome State Fault Refusal :=
  complete "ddiv" .arithDiv .RRR ⟨0xf7, b1, b2, b3⟩ s

/-- fdmul, opcode 0xf9: kind RRR (R82). -/
def execFdmulF9 (b1 b2 b3 : Byte) (s : State) : Host.Outcome State Fault Refusal :=
  complete "fdmul" .arithMul .RRR ⟨0xf9, b1, b2, b3⟩ s

end Sys2Proof.Machine
end

