-- ==== Sys2Proof/Machine/LoadStore.lean ====
section
/-! DEFINITION. The meanings of the rows for loads and stores: what the block answers for their words. Each
names its mnemonic, class and rule kind as the opcode table has them (rows of 93 G4, PRESUMED, see
notes/assumptions/1.md); the operands are the rule's (spec/41_bitfield_decode_rules.md). -/

namespace Sys2Proof.Machine

/-- loadl, opcode 0x06: kind LDST (R86). -/
def execLoadl06 (b1 b2 b3 : Byte) (s : State) : Host.Outcome State Fault Refusal :=
  complete "loadl" .load .LDST ⟨0x06, b1, b2, b3⟩ s

/-- loadl, opcode 0x07: kind LDST (R86). -/
def execLoadl07 (b1 b2 b3 : Byte) (s : State) : Host.Outcome State Fault Refusal :=
  complete "loadl" .load .LDST ⟨0x07, b1, b2, b3⟩ s

/-- storel, opcode 0x0e: kind LDST (R86). -/
def execStorel0E (b1 b2 b3 : Byte) (s : State) : Host.Outcome State Fault Refusal :=
  complete "storel" .store .LDST ⟨0x0e, b1, b2, b3⟩ s

/-- storel, opcode 0x0f: kind LDST (R86). -/
def execStorel0F (b1 b2 b3 : Byte) (s : State) : Host.Outcome State Fault Refusal :=
  complete "storel" .store .LDST ⟨0x0f, b1, b2, b3⟩ s

/-- load, opcode 0x16: kind LDST (R86). -/
def execLoad16 (b1 b2 b3 : Byte) (s : State) : Host.Outcome State Fault Refusal :=
  complete "load" .load .LDST ⟨0x16, b1, b2, b3⟩ s

/-- load, opcode 0x17: kind LDST (R86). -/
def execLoad17 (b1 b2 b3 : Byte) (s : State) : Host.Outcome State Fault Refusal :=
  complete "load" .load .LDST ⟨0x17, b1, b2, b3⟩ s

/-- store, opcode 0x1e: kind LDST (R86). -/
def execStore1E (b1 b2 b3 : Byte) (s : State) : Host.Outcome State Fault Refusal :=
  complete "store" .store .LDST ⟨0x1e, b1, b2, b3⟩ s

/-- store, opcode 0x1f: kind LDST (R86). -/
def execStore1F (b1 b2 b3 : Byte) (s : State) : Host.Outcome State Fault Refusal :=
  complete "store" .store .LDST ⟨0x1f, b1, b2, b3⟩ s

/-- loadset, opcode 0x26: kind LDST (R86). -/
def execLoadset26 (b1 b2 b3 : Byte) (s : State) : Host.Outcome State Fault Refusal :=
  complete "loadset" .load .LDST ⟨0x26, b1, b2, b3⟩ s

/-- loadset, opcode 0x27: kind LDST (R86). -/
def execLoadset27 (b1 b2 b3 : Byte) (s : State) : Host.Outcome State Fault Refusal :=
  complete "loadset" .load .LDST ⟨0x27, b1, b2, b3⟩ s

/-- loadm, opcode 0x36: kind LDST (R86). -/
def execLoadm36 (b1 b2 b3 : Byte) (s : State) : Host.Outcome State Fault Refusal :=
  complete "loadm" .load .LDST ⟨0x36, b1, b2, b3⟩ s

/-- loadm, opcode 0x37: kind LDST (R86). -/
def execLoadm37 (b1 b2 b3 : Byte) (s : State) : Host.Outcome State Fault Refusal :=
  complete "loadm" .load .LDST ⟨0x37, b1, b2, b3⟩ s

/-- storem, opcode 0x3e: kind LDST (R86). -/
def execStorem3E (b1 b2 b3 : Byte) (s : State) : Host.Outcome State Fault Refusal :=
  complete "storem" .store .LDST ⟨0x3e, b1, b2, b3⟩ s

/-- storem, opcode 0x3f: kind LDST (R86). -/
def execStorem3F (b1 b2 b3 : Byte) (s : State) : Host.Outcome State Fault Refusal :=
  complete "storem" .store .LDST ⟨0x3f, b1, b2, b3⟩ s

end Sys2Proof.Machine
end

