-- ==== Sys2Proof/Machine/Logic.lean ====
section
/-! DEFINITION. The meanings of the rows for bitwise logic: what the block answers for their words. Each
names its mnemonic, class and rule kind as the opcode table has them (rows of 93 G4, PRESUMED, see
notes/assumptions/1.md); the operands are the rule's (spec/41_bitfield_decode_rules.md). -/

namespace Sys2Proof.Machine

/-- and, opcode 0x90: kind RRM (R81). -/
def execAnd90 (b1 b2 b3 : Byte) (s : State) : Host.Outcome State Fault Refusal :=
  complete "and" .bitAnd .RRM ⟨0x90, b1, b2, b3⟩ s

/-- and, opcode 0x91: kind RRM (R81). -/
def execAnd91 (b1 b2 b3 : Byte) (s : State) : Host.Outcome State Fault Refusal :=
  complete "and" .bitAnd .RRM ⟨0x91, b1, b2, b3⟩ s

/-- or, opcode 0x92: kind RRM (R81). -/
def execOr92 (b1 b2 b3 : Byte) (s : State) : Host.Outcome State Fault Refusal :=
  complete "or" .bitOr .RRM ⟨0x92, b1, b2, b3⟩ s

/-- or, opcode 0x93: kind RRM (R81). -/
def execOr93 (b1 b2 b3 : Byte) (s : State) : Host.Outcome State Fault Refusal :=
  complete "or" .bitOr .RRM ⟨0x93, b1, b2, b3⟩ s

/-- xor, opcode 0x94: kind RRM (R81). -/
def execXor94 (b1 b2 b3 : Byte) (s : State) : Host.Outcome State Fault Refusal :=
  complete "xor" .bitXor .RRM ⟨0x94, b1, b2, b3⟩ s

/-- xor, opcode 0x95: kind RRM (R81). -/
def execXor95 (b1 b2 b3 : Byte) (s : State) : Host.Outcome State Fault Refusal :=
  complete "xor" .bitXor .RRM ⟨0x95, b1, b2, b3⟩ s

/-- xnor, opcode 0x96: kind RRM (R81). -/
def execXnor96 (b1 b2 b3 : Byte) (s : State) : Host.Outcome State Fault Refusal :=
  complete "xnor" .bitXor .RRM ⟨0x96, b1, b2, b3⟩ s

/-- xnor, opcode 0x97: kind RRM (R81). -/
def execXnor97 (b1 b2 b3 : Byte) (s : State) : Host.Outcome State Fault Refusal :=
  complete "xnor" .bitXor .RRM ⟨0x97, b1, b2, b3⟩ s

/-- nor, opcode 0x98: kind RRM (R81). -/
def execNor98 (b1 b2 b3 : Byte) (s : State) : Host.Outcome State Fault Refusal :=
  complete "nor" .bitNor .RRM ⟨0x98, b1, b2, b3⟩ s

/-- nor, opcode 0x99: kind RRM (R81). -/
def execNor99 (b1 b2 b3 : Byte) (s : State) : Host.Outcome State Fault Refusal :=
  complete "nor" .bitNor .RRM ⟨0x99, b1, b2, b3⟩ s

/-- nand, opcode 0x9a: kind RRM (R81). -/
def execNand9A (b1 b2 b3 : Byte) (s : State) : Host.Outcome State Fault Refusal :=
  complete "nand" .bitAnd .RRM ⟨0x9a, b1, b2, b3⟩ s

/-- nand, opcode 0x9b: kind RRM (R81). -/
def execNand9B (b1 b2 b3 : Byte) (s : State) : Host.Outcome State Fault Refusal :=
  complete "nand" .bitAnd .RRM ⟨0x9b, b1, b2, b3⟩ s

/-- andn, opcode 0x9c: kind RRM (R81). -/
def execAndn9C (b1 b2 b3 : Byte) (s : State) : Host.Outcome State Fault Refusal :=
  complete "andn" .bitAnd .RRM ⟨0x9c, b1, b2, b3⟩ s

/-- andn, opcode 0x9d: kind RRM (R81). -/
def execAndn9D (b1 b2 b3 : Byte) (s : State) : Host.Outcome State Fault Refusal :=
  complete "andn" .bitAnd .RRM ⟨0x9d, b1, b2, b3⟩ s

/-- orn, opcode 0xaa: kind RRM (R81). -/
def execOrnAA (b1 b2 b3 : Byte) (s : State) : Host.Outcome State Fault Refusal :=
  complete "orn" .bitOr .RRM ⟨0xaa, b1, b2, b3⟩ s

/-- orn, opcode 0xab: kind RRM (R81). -/
def execOrnAB (b1 b2 b3 : Byte) (s : State) : Host.Outcome State Fault Refusal :=
  complete "orn" .bitOr .RRM ⟨0xab, b1, b2, b3⟩ s

end Sys2Proof.Machine
end

