-- ==== Sys2Proof/Machine/MultiplyDivide.lean ====
section
/-! DEFINITION. The meanings of the rows for integer multiplication and division: what the block answers for their words. Each
names its mnemonic, class and rule kind as the opcode table has them (rows of 93 G4, PRESUMED, see
notes/assumptions/1.md); the operands are the rule's (spec/41_bitfield_decode_rules.md). -/

namespace Sys2Proof.Machine

/-- mul, opcode 0x64: kind RRM (R81). -/
def execMul64 (b1 b2 b3 : Byte) (s : State) : Host.Outcome State Fault Refusal :=
  complete "mul" .arithMul .RRM ⟨0x64, b1, b2, b3⟩ s

/-- mul, opcode 0x65: kind RRM (R81). -/
def execMul65 (b1 b2 b3 : Byte) (s : State) : Host.Outcome State Fault Refusal :=
  complete "mul" .arithMul .RRM ⟨0x65, b1, b2, b3⟩ s

/-- mull, opcode 0x66: kind RRM (R81). -/
def execMull66 (b1 b2 b3 : Byte) (s : State) : Host.Outcome State Fault Refusal :=
  complete "mull" .arithMul .RRM ⟨0x66, b1, b2, b3⟩ s

/-- mull, opcode 0x67: kind RRM (R81). -/
def execMull67 (b1 b2 b3 : Byte) (s : State) : Host.Outcome State Fault Refusal :=
  complete "mull" .arithMul .RRM ⟨0x67, b1, b2, b3⟩ s

/-- div0, opcode 0x68: kind RRM (R81). -/
def execDiv068 (b1 b2 b3 : Byte) (s : State) : Host.Outcome State Fault Refusal :=
  complete "div0" .arithDiv .RRM ⟨0x68, b1, b2, b3⟩ s

/-- div0, opcode 0x69: kind RRM (R81). -/
def execDiv069 (b1 b2 b3 : Byte) (s : State) : Host.Outcome State Fault Refusal :=
  complete "div0" .arithDiv .RRM ⟨0x69, b1, b2, b3⟩ s

/-- div, opcode 0x6a: kind RRM (R81). -/
def execDiv6A (b1 b2 b3 : Byte) (s : State) : Host.Outcome State Fault Refusal :=
  complete "div" .arithDiv .RRM ⟨0x6a, b1, b2, b3⟩ s

/-- div, opcode 0x6b: kind RRM (R81). -/
def execDiv6B (b1 b2 b3 : Byte) (s : State) : Host.Outcome State Fault Refusal :=
  complete "div" .arithDiv .RRM ⟨0x6b, b1, b2, b3⟩ s

/-- divl, opcode 0x6c: kind RRM (R81). -/
def execDivl6C (b1 b2 b3 : Byte) (s : State) : Host.Outcome State Fault Refusal :=
  complete "divl" .arithDiv .RRM ⟨0x6c, b1, b2, b3⟩ s

/-- divl, opcode 0x6d: kind RRM (R81). -/
def execDivl6D (b1 b2 b3 : Byte) (s : State) : Host.Outcome State Fault Refusal :=
  complete "divl" .arithDiv .RRM ⟨0x6d, b1, b2, b3⟩ s

/-- divrem, opcode 0x6e: kind RRM (R81). -/
def execDivrem6E (b1 b2 b3 : Byte) (s : State) : Host.Outcome State Fault Refusal :=
  complete "divrem" .arithDiv .RRM ⟨0x6e, b1, b2, b3⟩ s

/-- divrem, opcode 0x6f: kind RRM (R81). -/
def execDivrem6F (b1 b2 b3 : Byte) (s : State) : Host.Outcome State Fault Refusal :=
  complete "divrem" .arithDiv .RRM ⟨0x6f, b1, b2, b3⟩ s

/-- mulu, opcode 0x74: kind RRM (R81). -/
def execMulu74 (b1 b2 b3 : Byte) (s : State) : Host.Outcome State Fault Refusal :=
  complete "mulu" .arithMul .RRM ⟨0x74, b1, b2, b3⟩ s

/-- mulu, opcode 0x75: kind RRM (R81). -/
def execMulu75 (b1 b2 b3 : Byte) (s : State) : Host.Outcome State Fault Refusal :=
  complete "mulu" .arithMul .RRM ⟨0x75, b1, b2, b3⟩ s

/-- multm, opcode 0xde: kind RRR (R82). -/
def execMultmDE (b1 b2 b3 : Byte) (s : State) : Host.Outcome State Fault Refusal :=
  complete "multm" .arithMul .RRR ⟨0xde, b1, b2, b3⟩ s

/-- multmu, opcode 0xdf: kind RRR (R82). -/
def execMultmuDF (b1 b2 b3 : Byte) (s : State) : Host.Outcome State Fault Refusal :=
  complete "multmu" .arithMul .RRR ⟨0xdf, b1, b2, b3⟩ s

/-- multiply, opcode 0xe0: kind RRR (R82). -/
def execMultiplyE0 (b1 b2 b3 : Byte) (s : State) : Host.Outcome State Fault Refusal :=
  complete "multiply" .arithMul .RRR ⟨0xe0, b1, b2, b3⟩ s

/-- divide, opcode 0xe1: kind RRR (R82). -/
def execDivideE1 (b1 b2 b3 : Byte) (s : State) : Host.Outcome State Fault Refusal :=
  complete "divide" .arithDiv .RRR ⟨0xe1, b1, b2, b3⟩ s

/-- multiplu, opcode 0xe2: kind RRR (R82). -/
def execMultipluE2 (b1 b2 b3 : Byte) (s : State) : Host.Outcome State Fault Refusal :=
  complete "multiplu" .arithMul .RRR ⟨0xe2, b1, b2, b3⟩ s

/-- dividu, opcode 0xe3: kind RRR (R82). -/
def execDividuE3 (b1 b2 b3 : Byte) (s : State) : Host.Outcome State Fault Refusal :=
  complete "dividu" .arithDiv .RRR ⟨0xe3, b1, b2, b3⟩ s

end Sys2Proof.Machine
end

