-- ==== Sys2Proof/Machine/ShiftExtract.lean ====
section
/-! DEFINITION. The meanings of the rows for shifts, extracts, inserts and count-leading-zeros: what the block answers for their words. Each
names its mnemonic, class and rule kind as the opcode table has them (rows of 93 G4, PRESUMED, see
notes/assumptions/1.md); the operands are the rule's (spec/41_bitfield_decode_rules.md). -/

namespace Sys2Proof.Machine

/-- clz, opcode 0x08: kind CLZ (R89). -/
def execClz08 (b1 b2 b3 : Byte) (s : State) : Host.Outcome State Fault Refusal :=
  complete "clz" .unclassified .CLZ ⟨0x08, b1, b2, b3⟩ s

/-- clz, opcode 0x09: kind CLZ (R89). -/
def execClz09 (b1 b2 b3 : Byte) (s : State) : Host.Outcome State Fault Refusal :=
  complete "clz" .unclassified .CLZ ⟨0x09, b1, b2, b3⟩ s

/-- exbyte, opcode 0x0a: kind RRM (R81). -/
def execExbyte0A (b1 b2 b3 : Byte) (s : State) : Host.Outcome State Fault Refusal :=
  complete "exbyte" .unclassified .RRM ⟨0x0a, b1, b2, b3⟩ s

/-- exbyte, opcode 0x0b: kind RRM (R81). -/
def execExbyte0B (b1 b2 b3 : Byte) (s : State) : Host.Outcome State Fault Refusal :=
  complete "exbyte" .unclassified .RRM ⟨0x0b, b1, b2, b3⟩ s

/-- inbyte, opcode 0x0c: kind RRM (R81). -/
def execInbyte0C (b1 b2 b3 : Byte) (s : State) : Host.Outcome State Fault Refusal :=
  complete "inbyte" .unclassified .RRM ⟨0x0c, b1, b2, b3⟩ s

/-- inbyte, opcode 0x0d: kind RRM (R81). -/
def execInbyte0D (b1 b2 b3 : Byte) (s : State) : Host.Outcome State Fault Refusal :=
  complete "inbyte" .unclassified .RRM ⟨0x0d, b1, b2, b3⟩ s

/-- inhw, opcode 0x78: kind RRM (R81). -/
def execInhw78 (b1 b2 b3 : Byte) (s : State) : Host.Outcome State Fault Refusal :=
  complete "inhw" .unclassified .RRM ⟨0x78, b1, b2, b3⟩ s

/-- inhw, opcode 0x79: kind RRM (R81). -/
def execInhw79 (b1 b2 b3 : Byte) (s : State) : Host.Outcome State Fault Refusal :=
  complete "inhw" .unclassified .RRM ⟨0x79, b1, b2, b3⟩ s

/-- extract, opcode 0x7a: kind RRM (R81). -/
def execExtract7A (b1 b2 b3 : Byte) (s : State) : Host.Outcome State Fault Refusal :=
  complete "extract" .unclassified .RRM ⟨0x7a, b1, b2, b3⟩ s

/-- extract, opcode 0x7b: kind RRM (R81). -/
def execExtract7B (b1 b2 b3 : Byte) (s : State) : Host.Outcome State Fault Refusal :=
  complete "extract" .unclassified .RRM ⟨0x7b, b1, b2, b3⟩ s

/-- exhw, opcode 0x7c: kind RRM (R81). -/
def execExhw7C (b1 b2 b3 : Byte) (s : State) : Host.Outcome State Fault Refusal :=
  complete "exhw" .unclassified .RRM ⟨0x7c, b1, b2, b3⟩ s

/-- exhw, opcode 0x7d: kind RRM (R81). -/
def execExhw7D (b1 b2 b3 : Byte) (s : State) : Host.Outcome State Fault Refusal :=
  complete "exhw" .unclassified .RRM ⟨0x7d, b1, b2, b3⟩ s

/-- exhws, opcode 0x7e: kind RCRA (R91). -/
def execExhws7E (b1 b2 b3 : Byte) (s : State) : Host.Outcome State Fault Refusal :=
  complete "exhws" .unclassified .RCRA ⟨0x7e, b1, b2, b3⟩ s

/-- sll, opcode 0x80: kind RRM (R81). -/
def execSll80 (b1 b2 b3 : Byte) (s : State) : Host.Outcome State Fault Refusal :=
  complete "sll" .unclassified .RRM ⟨0x80, b1, b2, b3⟩ s

/-- sll, opcode 0x81: kind RRM (R81). -/
def execSll81 (b1 b2 b3 : Byte) (s : State) : Host.Outcome State Fault Refusal :=
  complete "sll" .unclassified .RRM ⟨0x81, b1, b2, b3⟩ s

/-- srl, opcode 0x82: kind RRM (R81). -/
def execSrl82 (b1 b2 b3 : Byte) (s : State) : Host.Outcome State Fault Refusal :=
  complete "srl" .unclassified .RRM ⟨0x82, b1, b2, b3⟩ s

/-- srl, opcode 0x83: kind RRM (R81). -/
def execSrl83 (b1 b2 b3 : Byte) (s : State) : Host.Outcome State Fault Refusal :=
  complete "srl" .unclassified .RRM ⟨0x83, b1, b2, b3⟩ s

/-- sra, opcode 0x86: kind RRM (R81). -/
def execSra86 (b1 b2 b3 : Byte) (s : State) : Host.Outcome State Fault Refusal :=
  complete "sra" .unclassified .RRM ⟨0x86, b1, b2, b3⟩ s

/-- sra, opcode 0x87: kind RRM (R81). -/
def execSra87 (b1 b2 b3 : Byte) (s : State) : Host.Outcome State Fault Refusal :=
  complete "sra" .unclassified .RRM ⟨0x87, b1, b2, b3⟩ s

end Sys2Proof.Machine
end

