-- ==== Sys2Proof/Machine/SystemControl.lean ====
section
/-! DEFINITION. The meanings of the rows for interrupt return, halt, invalidate, set indirect pointers, emulate: what the block answers for their words. Each
names its mnemonic, class and rule kind as the opcode table has them (rows of 93 G4, PRESUMED, see
notes/assumptions/1.md); the operands are the rule's (spec/41_bitfield_decode_rules.md). -/

namespace Sys2Proof.Machine

/-- iret, opcode 0x88: kind NONE (R99). -/
def execIret88 (b1 b2 b3 : Byte) (s : State) : Host.Outcome State Fault Refusal :=
  complete "iret" .ret .NONE ⟨0x88, b1, b2, b3⟩ s

/-- halt, opcode 0x89: kind NONE (R99). -/
def execHalt89 (b1 b2 b3 : Byte) (s : State) : Host.Outcome State Fault Refusal :=
  complete "halt" .unclassified .NONE ⟨0x89, b1, b2, b3⟩ s

/-- iretinv, opcode 0x8c: kind NONE (R99). -/
def execIretinv8C (b1 b2 b3 : Byte) (s : State) : Host.Outcome State Fault Refusal :=
  complete "iretinv" .ret .NONE ⟨0x8c, b1, b2, b3⟩ s

/-- setip, opcode 0x9e: kind RRR (R82). -/
def execSetip9E (b1 b2 b3 : Byte) (s : State) : Host.Outcome State Fault Refusal :=
  complete "setip" .unclassified .RRR ⟨0x9e, b1, b2, b3⟩ s

/-- inv, opcode 0x9f: kind NONE (R99). -/
def execInv9F (b1 b2 b3 : Byte) (s : State) : Host.Outcome State Fault Refusal :=
  complete "inv" .unclassified .NONE ⟨0x9f, b1, b2, b3⟩ s

/-- emulate, opcode 0xd7: kind RRR (R82). -/
def execEmulateD7 (b1 b2 b3 : Byte) (s : State) : Host.Outcome State Fault Refusal :=
  complete "emulate" .unclassified .RRR ⟨0xd7, b1, b2, b3⟩ s

end Sys2Proof.Machine
end

