-- ==== Sys2Proof/Machine/Dispatch.lean ====
section
/-! DEFINITION. The dispatch: one arm per constructor of Instr, each one direct call of its meaning. -/

namespace Sys2Proof.Machine

def exec (i : Instr) (s : State) : Host.Outcome State Fault Refusal :=
  match i with
  | .attested_14 _ mnemonic cls b1 b2 b3 => Sys2Proof.Machine.execAttested14 mnemonic cls b1 b2 b3 s
  | .nopLiteral => Sys2Proof.Machine.execNopLiteral s
  | .anyRRM e b1 b2 b3 => Sys2Proof.Machine.execAnyRRM e b1 b2 b3 s
  | .anyRRR e b1 b2 b3 => Sys2Proof.Machine.execAnyRRR e b1 b2 b3 s
  | .anyRI16 e b1 b2 b3 => Sys2Proof.Machine.execAnyRI16 e b1 b2 b3 s
  | .anyRDISP e b1 b2 b3 => Sys2Proof.Machine.execAnyRDISP e b1 b2 b3 s
  | .anyDISP e b1 b2 b3 => Sys2Proof.Machine.execAnyDISP e b1 b2 b3 s
  | .anyLDST e b1 b2 b3 => Sys2Proof.Machine.execAnyLDST e b1 b2 b3 s
  | .anyICALL e b1 b2 b3 => Sys2Proof.Machine.execAnyICALL e b1 b2 b3 s
  | .anyRRI2 e b1 b2 b3 => Sys2Proof.Machine.execAnyRRI2 e b1 b2 b3 s
  | .anyCLZ e b1 b2 b3 => Sys2Proof.Machine.execAnyCLZ e b1 b2 b3 s
  | .anyCVT6 e b1 b2 b3 => Sys2Proof.Machine.execAnyCVT6 e b1 b2 b3 s
  | .anyRCRA e b1 b2 b3 => Sys2Proof.Machine.execAnyRCRA e b1 b2 b3 s
  | .anyMAC e b1 b2 b3 => Sys2Proof.Machine.execAnyMAC e b1 b2 b3 s
  | .anyR1R3 e b1 b2 b3 => Sys2Proof.Machine.execAnyR1R3 e b1 b2 b3 s
  | .anyRB e b1 b2 b3 => Sys2Proof.Machine.execAnyRB e b1 b2 b3 s
  | .anyRC_I2I2 e b1 b2 b3 => Sys2Proof.Machine.execAnyRC_I2I2 e b1 b2 b3 s
  | .anyRA_I2I2 e b1 b2 b3 => Sys2Proof.Machine.execAnyRA_I2I2 e b1 b2 b3 s
  | .anyMFSR e b1 b2 b3 => Sys2Proof.Machine.execAnyMFSR e b1 b2 b3 s
  | .anyMTSR e b1 b2 b3 => Sys2Proof.Machine.execAnyMTSR e b1 b2 b3 s
  | .anyNONE e b1 b2 b3 => Sys2Proof.Machine.execAnyNONE e b1 b2 b3 s
  | .constn_01 b1 b2 b3 => Sys2Proof.Machine.execConstn01 b1 b2 b3 s
  | .consth_02 b1 b2 b3 => Sys2Proof.Machine.execConsth02 b1 b2 b3 s
  | .const_03 b1 b2 b3 => Sys2Proof.Machine.execConst03 b1 b2 b3 s
  | .mtsrim_04 b1 b2 b3 => Sys2Proof.Machine.execMtsrim04 b1 b2 b3 s
  | .consthz_05 b1 b2 b3 => Sys2Proof.Machine.execConsthz05 b1 b2 b3 s
  | .loadl_06 b1 b2 b3 => Sys2Proof.Machine.execLoadl06 b1 b2 b3 s
  | .loadl_07 b1 b2 b3 => Sys2Proof.Machine.execLoadl07 b1 b2 b3 s
  | .clz_08 b1 b2 b3 => Sys2Proof.Machine.execClz08 b1 b2 b3 s
  | .clz_09 b1 b2 b3 => Sys2Proof.Machine.execClz09 b1 b2 b3 s
  | .exbyte_0a b1 b2 b3 => Sys2Proof.Machine.execExbyte0A b1 b2 b3 s
  | .exbyte_0b b1 b2 b3 => Sys2Proof.Machine.execExbyte0B b1 b2 b3 s
  | .inbyte_0c b1 b2 b3 => Sys2Proof.Machine.execInbyte0C b1 b2 b3 s
  | .inbyte_0d b1 b2 b3 => Sys2Proof.Machine.execInbyte0D b1 b2 b3 s
  | .storel_0e b1 b2 b3 => Sys2Proof.Machine.execStorel0E b1 b2 b3 s
  | .storel_0f b1 b2 b3 => Sys2Proof.Machine.execStorel0F b1 b2 b3 s
  | .adds_10 b1 b2 b3 => Sys2Proof.Machine.execAdds10 b1 b2 b3 s
  | .adds_11 b1 b2 b3 => Sys2Proof.Machine.execAdds11 b1 b2 b3 s
  | .addu_12 b1 b2 b3 => Sys2Proof.Machine.execAddu12 b1 b2 b3 s
  | .addu_13 b1 b2 b3 => Sys2Proof.Machine.execAddu13 b1 b2 b3 s
  | .add_14 b1 b2 b3 => Sys2Proof.Machine.execAdd14 b1 b2 b3 s
  | .add_15 b1 b2 b3 => Sys2Proof.Machine.execAdd15 b1 b2 b3 s
  | .load_16 b1 b2 b3 => Sys2Proof.Machine.execLoad16 b1 b2 b3 s
  | .load_17 b1 b2 b3 => Sys2Proof.Machine.execLoad17 b1 b2 b3 s
  | .addcs_18 b1 b2 b3 => Sys2Proof.Machine.execAddcs18 b1 b2 b3 s
  | .addcs_19 b1 b2 b3 => Sys2Proof.Machine.execAddcs19 b1 b2 b3 s
  | .addcu_1a b1 b2 b3 => Sys2Proof.Machine.execAddcu1A b1 b2 b3 s
  | .addcu_1b b1 b2 b3 => Sys2Proof.Machine.execAddcu1B b1 b2 b3 s
  | .addc_1c b1 b2 b3 => Sys2Proof.Machine.execAddc1C b1 b2 b3 s
  | .addc_1d b1 b2 b3 => Sys2Proof.Machine.execAddc1D b1 b2 b3 s
  | .store_1e b1 b2 b3 => Sys2Proof.Machine.execStore1E b1 b2 b3 s
  | .store_1f b1 b2 b3 => Sys2Proof.Machine.execStore1F b1 b2 b3 s
  | .subs_20 b1 b2 b3 => Sys2Proof.Machine.execSubs20 b1 b2 b3 s
  | .subs_21 b1 b2 b3 => Sys2Proof.Machine.execSubs21 b1 b2 b3 s
  | .subu_22 b1 b2 b3 => Sys2Proof.Machine.execSubu22 b1 b2 b3 s
  | .subu_23 b1 b2 b3 => Sys2Proof.Machine.execSubu23 b1 b2 b3 s
  | .sub_24 b1 b2 b3 => Sys2Proof.Machine.execSub24 b1 b2 b3 s
  | .sub_25 b1 b2 b3 => Sys2Proof.Machine.execSub25 b1 b2 b3 s
  | .loadset_26 b1 b2 b3 => Sys2Proof.Machine.execLoadset26 b1 b2 b3 s
  | .loadset_27 b1 b2 b3 => Sys2Proof.Machine.execLoadset27 b1 b2 b3 s
  | .subcs_28 b1 b2 b3 => Sys2Proof.Machine.execSubcs28 b1 b2 b3 s
  | .subcs_29 b1 b2 b3 => Sys2Proof.Machine.execSubcs29 b1 b2 b3 s
  | .subcu_2a b1 b2 b3 => Sys2Proof.Machine.execSubcu2A b1 b2 b3 s
  | .subcu_2b b1 b2 b3 => Sys2Proof.Machine.execSubcu2B b1 b2 b3 s
  | .subc_2c b1 b2 b3 => Sys2Proof.Machine.execSubc2C b1 b2 b3 s
  | .subc_2d b1 b2 b3 => Sys2Proof.Machine.execSubc2D b1 b2 b3 s
  | .cpbyte_2e b1 b2 b3 => Sys2Proof.Machine.execCpbyte2E b1 b2 b3 s
  | .cpbyte_2f b1 b2 b3 => Sys2Proof.Machine.execCpbyte2F b1 b2 b3 s
  | .subrs_30 b1 b2 b3 => Sys2Proof.Machine.execSubrs30 b1 b2 b3 s
  | .subrs_31 b1 b2 b3 => Sys2Proof.Machine.execSubrs31 b1 b2 b3 s
  | .subru_32 b1 b2 b3 => Sys2Proof.Machine.execSubru32 b1 b2 b3 s
  | .subru_33 b1 b2 b3 => Sys2Proof.Machine.execSubru33 b1 b2 b3 s
  | .subr_34 b1 b2 b3 => Sys2Proof.Machine.execSubr34 b1 b2 b3 s
  | .subr_35 b1 b2 b3 => Sys2Proof.Machine.execSubr35 b1 b2 b3 s
  | .loadm_36 b1 b2 b3 => Sys2Proof.Machine.execLoadm36 b1 b2 b3 s
  | .loadm_37 b1 b2 b3 => Sys2Proof.Machine.execLoadm37 b1 b2 b3 s
  | .subrcs_38 b1 b2 b3 => Sys2Proof.Machine.execSubrcs38 b1 b2 b3 s
  | .subrcs_39 b1 b2 b3 => Sys2Proof.Machine.execSubrcs39 b1 b2 b3 s
  | .subrcu_3a b1 b2 b3 => Sys2Proof.Machine.execSubrcu3A b1 b2 b3 s
  | .subrcu_3b b1 b2 b3 => Sys2Proof.Machine.execSubrcu3B b1 b2 b3 s
  | .subrc_3c b1 b2 b3 => Sys2Proof.Machine.execSubrc3C b1 b2 b3 s
  | .subrc_3d b1 b2 b3 => Sys2Proof.Machine.execSubrc3D b1 b2 b3 s
  | .storem_3e b1 b2 b3 => Sys2Proof.Machine.execStorem3E b1 b2 b3 s
  | .storem_3f b1 b2 b3 => Sys2Proof.Machine.execStorem3F b1 b2 b3 s
  | .cplt_40 b1 b2 b3 => Sys2Proof.Machine.execCplt40 b1 b2 b3 s
  | .cplt_41 b1 b2 b3 => Sys2Proof.Machine.execCplt41 b1 b2 b3 s
  | .cpltu_42 b1 b2 b3 => Sys2Proof.Machine.execCpltu42 b1 b2 b3 s
  | .cpltu_43 b1 b2 b3 => Sys2Proof.Machine.execCpltu43 b1 b2 b3 s
  | .cple_44 b1 b2 b3 => Sys2Proof.Machine.execCple44 b1 b2 b3 s
  | .cple_45 b1 b2 b3 => Sys2Proof.Machine.execCple45 b1 b2 b3 s
  | .cpleu_46 b1 b2 b3 => Sys2Proof.Machine.execCpleu46 b1 b2 b3 s
  | .cpleu_47 b1 b2 b3 => Sys2Proof.Machine.execCpleu47 b1 b2 b3 s
  | .cpgt_48 b1 b2 b3 => Sys2Proof.Machine.execCpgt48 b1 b2 b3 s
  | .cpgt_49 b1 b2 b3 => Sys2Proof.Machine.execCpgt49 b1 b2 b3 s
  | .cpgtu_4a b1 b2 b3 => Sys2Proof.Machine.execCpgtu4A b1 b2 b3 s
  | .cpgtu_4b b1 b2 b3 => Sys2Proof.Machine.execCpgtu4B b1 b2 b3 s
  | .cpge_4c b1 b2 b3 => Sys2Proof.Machine.execCpge4C b1 b2 b3 s
  | .cpge_4d b1 b2 b3 => Sys2Proof.Machine.execCpge4D b1 b2 b3 s
  | .cpgeu_4e b1 b2 b3 => Sys2Proof.Machine.execCpgeu4E b1 b2 b3 s
  | .cpgeu_4f b1 b2 b3 => Sys2Proof.Machine.execCpgeu4F b1 b2 b3 s
  | .aslt_50 b1 b2 b3 => Sys2Proof.Machine.execAslt50 b1 b2 b3 s
  | .aslt_51 b1 b2 b3 => Sys2Proof.Machine.execAslt51 b1 b2 b3 s
  | .asltu_52 b1 b2 b3 => Sys2Proof.Machine.execAsltu52 b1 b2 b3 s
  | .asltu_53 b1 b2 b3 => Sys2Proof.Machine.execAsltu53 b1 b2 b3 s
  | .asle_54 b1 b2 b3 => Sys2Proof.Machine.execAsle54 b1 b2 b3 s
  | .asle_55 b1 b2 b3 => Sys2Proof.Machine.execAsle55 b1 b2 b3 s
  | .asleu_56 b1 b2 b3 => Sys2Proof.Machine.execAsleu56 b1 b2 b3 s
  | .asleu_57 b1 b2 b3 => Sys2Proof.Machine.execAsleu57 b1 b2 b3 s
  | .asgt_58 b1 b2 b3 => Sys2Proof.Machine.execAsgt58 b1 b2 b3 s
  | .asgt_59 b1 b2 b3 => Sys2Proof.Machine.execAsgt59 b1 b2 b3 s
  | .asgtu_5a b1 b2 b3 => Sys2Proof.Machine.execAsgtu5A b1 b2 b3 s
  | .asgtu_5b b1 b2 b3 => Sys2Proof.Machine.execAsgtu5B b1 b2 b3 s
  | .asge_5c b1 b2 b3 => Sys2Proof.Machine.execAsge5C b1 b2 b3 s
  | .asge_5d b1 b2 b3 => Sys2Proof.Machine.execAsge5D b1 b2 b3 s
  | .asgeu_5e b1 b2 b3 => Sys2Proof.Machine.execAsgeu5E b1 b2 b3 s
  | .asgeu_5f b1 b2 b3 => Sys2Proof.Machine.execAsgeu5F b1 b2 b3 s
  | .cpeq_60 b1 b2 b3 => Sys2Proof.Machine.execCpeq60 b1 b2 b3 s
  | .cpeq_61 b1 b2 b3 => Sys2Proof.Machine.execCpeq61 b1 b2 b3 s
  | .cpneq_62 b1 b2 b3 => Sys2Proof.Machine.execCpneq62 b1 b2 b3 s
  | .cpneq_63 b1 b2 b3 => Sys2Proof.Machine.execCpneq63 b1 b2 b3 s
  | .mul_64 b1 b2 b3 => Sys2Proof.Machine.execMul64 b1 b2 b3 s
  | .mul_65 b1 b2 b3 => Sys2Proof.Machine.execMul65 b1 b2 b3 s
  | .mull_66 b1 b2 b3 => Sys2Proof.Machine.execMull66 b1 b2 b3 s
  | .mull_67 b1 b2 b3 => Sys2Proof.Machine.execMull67 b1 b2 b3 s
  | .div0_68 b1 b2 b3 => Sys2Proof.Machine.execDiv068 b1 b2 b3 s
  | .div0_69 b1 b2 b3 => Sys2Proof.Machine.execDiv069 b1 b2 b3 s
  | .div_6a b1 b2 b3 => Sys2Proof.Machine.execDiv6A b1 b2 b3 s
  | .div_6b b1 b2 b3 => Sys2Proof.Machine.execDiv6B b1 b2 b3 s
  | .divl_6c b1 b2 b3 => Sys2Proof.Machine.execDivl6C b1 b2 b3 s
  | .divl_6d b1 b2 b3 => Sys2Proof.Machine.execDivl6D b1 b2 b3 s
  | .divrem_6e b1 b2 b3 => Sys2Proof.Machine.execDivrem6E b1 b2 b3 s
  | .divrem_6f b1 b2 b3 => Sys2Proof.Machine.execDivrem6F b1 b2 b3 s
  | .aseq_70 b1 b2 b3 => Sys2Proof.Machine.execAseq70 b1 b2 b3 s
  | .aseq_71 b1 b2 b3 => Sys2Proof.Machine.execAseq71 b1 b2 b3 s
  | .asneq_72 b1 b2 b3 => Sys2Proof.Machine.execAsneq72 b1 b2 b3 s
  | .asneq_73 b1 b2 b3 => Sys2Proof.Machine.execAsneq73 b1 b2 b3 s
  | .mulu_74 b1 b2 b3 => Sys2Proof.Machine.execMulu74 b1 b2 b3 s
  | .mulu_75 b1 b2 b3 => Sys2Proof.Machine.execMulu75 b1 b2 b3 s
  | .inhw_78 b1 b2 b3 => Sys2Proof.Machine.execInhw78 b1 b2 b3 s
  | .inhw_79 b1 b2 b3 => Sys2Proof.Machine.execInhw79 b1 b2 b3 s
  | .extract_7a b1 b2 b3 => Sys2Proof.Machine.execExtract7A b1 b2 b3 s
  | .extract_7b b1 b2 b3 => Sys2Proof.Machine.execExtract7B b1 b2 b3 s
  | .exhw_7c b1 b2 b3 => Sys2Proof.Machine.execExhw7C b1 b2 b3 s
  | .exhw_7d b1 b2 b3 => Sys2Proof.Machine.execExhw7D b1 b2 b3 s
  | .exhws_7e b1 b2 b3 => Sys2Proof.Machine.execExhws7E b1 b2 b3 s
  | .sll_80 b1 b2 b3 => Sys2Proof.Machine.execSll80 b1 b2 b3 s
  | .sll_81 b1 b2 b3 => Sys2Proof.Machine.execSll81 b1 b2 b3 s
  | .srl_82 b1 b2 b3 => Sys2Proof.Machine.execSrl82 b1 b2 b3 s
  | .srl_83 b1 b2 b3 => Sys2Proof.Machine.execSrl83 b1 b2 b3 s
  | .sra_86 b1 b2 b3 => Sys2Proof.Machine.execSra86 b1 b2 b3 s
  | .sra_87 b1 b2 b3 => Sys2Proof.Machine.execSra87 b1 b2 b3 s
  | .iret_88 b1 b2 b3 => Sys2Proof.Machine.execIret88 b1 b2 b3 s
  | .halt_89 b1 b2 b3 => Sys2Proof.Machine.execHalt89 b1 b2 b3 s
  | .iretinv_8c b1 b2 b3 => Sys2Proof.Machine.execIretinv8C b1 b2 b3 s
  | .and_90 b1 b2 b3 => Sys2Proof.Machine.execAnd90 b1 b2 b3 s
  | .and_91 b1 b2 b3 => Sys2Proof.Machine.execAnd91 b1 b2 b3 s
  | .or_92 b1 b2 b3 => Sys2Proof.Machine.execOr92 b1 b2 b3 s
  | .or_93 b1 b2 b3 => Sys2Proof.Machine.execOr93 b1 b2 b3 s
  | .xor_94 b1 b2 b3 => Sys2Proof.Machine.execXor94 b1 b2 b3 s
  | .xor_95 b1 b2 b3 => Sys2Proof.Machine.execXor95 b1 b2 b3 s
  | .xnor_96 b1 b2 b3 => Sys2Proof.Machine.execXnor96 b1 b2 b3 s
  | .xnor_97 b1 b2 b3 => Sys2Proof.Machine.execXnor97 b1 b2 b3 s
  | .nor_98 b1 b2 b3 => Sys2Proof.Machine.execNor98 b1 b2 b3 s
  | .nor_99 b1 b2 b3 => Sys2Proof.Machine.execNor99 b1 b2 b3 s
  | .nand_9a b1 b2 b3 => Sys2Proof.Machine.execNand9A b1 b2 b3 s
  | .nand_9b b1 b2 b3 => Sys2Proof.Machine.execNand9B b1 b2 b3 s
  | .andn_9c b1 b2 b3 => Sys2Proof.Machine.execAndn9C b1 b2 b3 s
  | .andn_9d b1 b2 b3 => Sys2Proof.Machine.execAndn9D b1 b2 b3 s
  | .setip_9e b1 b2 b3 => Sys2Proof.Machine.execSetip9E b1 b2 b3 s
  | .inv_9f b1 b2 b3 => Sys2Proof.Machine.execInv9F b1 b2 b3 s
  | .jmp_a0 b1 b2 b3 => Sys2Proof.Machine.execJmpA0 b1 b2 b3 s
  | .jmp_a1 b1 b2 b3 => Sys2Proof.Machine.execJmpA1 b1 b2 b3 s
  | .jmpf_a4 b1 b2 b3 => Sys2Proof.Machine.execJmpfA4 b1 b2 b3 s
  | .jmpf_a5 b1 b2 b3 => Sys2Proof.Machine.execJmpfA5 b1 b2 b3 s
  | .call_a8 b1 b2 b3 => Sys2Proof.Machine.execCallA8 b1 b2 b3 s
  | .call_a9 b1 b2 b3 => Sys2Proof.Machine.execCallA9 b1 b2 b3 s
  | .orn_aa b1 b2 b3 => Sys2Proof.Machine.execOrnAA b1 b2 b3 s
  | .orn_ab b1 b2 b3 => Sys2Proof.Machine.execOrnAB b1 b2 b3 s
  | .jmpt_ac b1 b2 b3 => Sys2Proof.Machine.execJmptAC b1 b2 b3 s
  | .jmpt_ad b1 b2 b3 => Sys2Proof.Machine.execJmptAD b1 b2 b3 s
  | .jmpfdec_b4 b1 b2 b3 => Sys2Proof.Machine.execJmpfdecB4 b1 b2 b3 s
  | .jmpfdec_b5 b1 b2 b3 => Sys2Proof.Machine.execJmpfdecB5 b1 b2 b3 s
  | .mftlb_b6 b1 b2 b3 => Sys2Proof.Machine.execMftlbB6 b1 b2 b3 s
  | .mttlb_be b1 b2 b3 => Sys2Proof.Machine.execMttlbBE b1 b2 b3 s
  | .jmpi_c0 b1 b2 b3 => Sys2Proof.Machine.execJmpiC0 b1 b2 b3 s
  | .jmpfi_c4 b1 b2 b3 => Sys2Proof.Machine.execJmpfiC4 b1 b2 b3 s
  | .mfsr_c6 b1 b2 b3 => Sys2Proof.Machine.execMfsrC6 b1 b2 b3 s
  | .calli_c8 b1 b2 b3 => Sys2Proof.Machine.execCalliC8 b1 b2 b3 s
  | .jmpti_cc b1 b2 b3 => Sys2Proof.Machine.execJmptiCC b1 b2 b3 s
  | .mtsr_ce b1 b2 b3 => Sys2Proof.Machine.execMtsrCE b1 b2 b3 s
  | .emulate_d7 b1 b2 b3 => Sys2Proof.Machine.execEmulateD7 b1 b2 b3 s
  | .fmac_d8 b1 b2 b3 => Sys2Proof.Machine.execFmacD8 b1 b2 b3 s
  | .dmac_d9 b1 b2 b3 => Sys2Proof.Machine.execDmacD9 b1 b2 b3 s
  | .fmsm_da b1 b2 b3 => Sys2Proof.Machine.execFmsmDA b1 b2 b3 s
  | .dmsm_db b1 b2 b3 => Sys2Proof.Machine.execDmsmDB b1 b2 b3 s
  | .multm_de b1 b2 b3 => Sys2Proof.Machine.execMultmDE b1 b2 b3 s
  | .multmu_df b1 b2 b3 => Sys2Proof.Machine.execMultmuDF b1 b2 b3 s
  | .multiply_e0 b1 b2 b3 => Sys2Proof.Machine.execMultiplyE0 b1 b2 b3 s
  | .divide_e1 b1 b2 b3 => Sys2Proof.Machine.execDivideE1 b1 b2 b3 s
  | .multiplu_e2 b1 b2 b3 => Sys2Proof.Machine.execMultipluE2 b1 b2 b3 s
  | .dividu_e3 b1 b2 b3 => Sys2Proof.Machine.execDividuE3 b1 b2 b3 s
  | .convert_e4 b1 b2 b3 => Sys2Proof.Machine.execConvertE4 b1 b2 b3 s
  | .sqrt_e5 b1 b2 b3 => Sys2Proof.Machine.execSqrtE5 b1 b2 b3 s
  | .class_e6 b1 b2 b3 => Sys2Proof.Machine.execClassE6 b1 b2 b3 s
  | .mtacc_e8 b1 b2 b3 => Sys2Proof.Machine.execMtaccE8 b1 b2 b3 s
  | .mfacc_e9 b1 b2 b3 => Sys2Proof.Machine.execMfaccE9 b1 b2 b3 s
  | .feq_ea b1 b2 b3 => Sys2Proof.Machine.execFeqEA b1 b2 b3 s
  | .deq_eb b1 b2 b3 => Sys2Proof.Machine.execDeqEB b1 b2 b3 s
  | .fgt_ec b1 b2 b3 => Sys2Proof.Machine.execFgtEC b1 b2 b3 s
  | .dgt_ed b1 b2 b3 => Sys2Proof.Machine.execDgtED b1 b2 b3 s
  | .fge_ee b1 b2 b3 => Sys2Proof.Machine.execFgeEE b1 b2 b3 s
  | .dge_ef b1 b2 b3 => Sys2Proof.Machine.execDgeEF b1 b2 b3 s
  | .fadd_f0 b1 b2 b3 => Sys2Proof.Machine.execFaddF0 b1 b2 b3 s
  | .dadd_f1 b1 b2 b3 => Sys2Proof.Machine.execDaddF1 b1 b2 b3 s
  | .fsub_f2 b1 b2 b3 => Sys2Proof.Machine.execFsubF2 b1 b2 b3 s
  | .dsub_f3 b1 b2 b3 => Sys2Proof.Machine.execDsubF3 b1 b2 b3 s
  | .fmul_f4 b1 b2 b3 => Sys2Proof.Machine.execFmulF4 b1 b2 b3 s
  | .dmul_f5 b1 b2 b3 => Sys2Proof.Machine.execDmulF5 b1 b2 b3 s
  | .fdiv_f6 b1 b2 b3 => Sys2Proof.Machine.execFdivF6 b1 b2 b3 s
  | .ddiv_f7 b1 b2 b3 => Sys2Proof.Machine.execDdivF7 b1 b2 b3 s
  | .fdmul_f9 b1 b2 b3 => Sys2Proof.Machine.execFdmulF9 b1 b2 b3 s

end Sys2Proof.Machine
end

