-- ==== Sys2Proof/Machine/Step.lean ====
section
/-! DEFINITION. One step of the machine: the block answers the request at its input ports. -/

namespace Sys2Proof.Machine

/-- One step. A `decode` request fetches the instruction at the input ports and runs it, or reports
the error (R111); a `consume` request feeds the consumers the Decoded Instruction handed over (R46).
The block advances no address (R24) and changes no input. -/
def step (s : State) : Host.Outcome State Fault Refusal :=
  match s.request with
  | .consume d => .next (s.consume d)
  | .decode =>
    match s.fetchInstr with
    | .error e => .next (s.raise e)
    | .ok i => exec i s

/-- The table's word `w` of `nbits` bits presented where the step fetches: the block loads no program
itself, the caller hands over the four bytes (R36, R178; notes/assumptions/8.md). -/
def State.withFetchWord (s : State) (nbits w : Nat) : State :=
  s.presentWord (Bytes4.ofWord (BitVec.ofNat 32 (w % 2 ^ nbits)))

end Sys2Proof.Machine
end

