-- ==== Sys2Proof/Machine/Harness.lean ====
section
/-! DEFINITION. The caller's walk over a byte stream (92_eei_decisions.md D33): a linear sweep that
hands the block four bytes at a time and moves `current_address` by 4 per instruction (R24). It is
the caller's and no part of the block: `step` does not use it. -/

namespace Sys2Proof.Machine

/-- One line of the sweep: the address the bytes were handed over with, and the block's answers. -/
structure SweepLine where
  address : Word
  result : Port DecodeResult
  text : Port (Option String)
  target : Port (Option Word)
  returnEquivalent : Port Bool
deriving DecidableEq, Repr

/-- The line the output ports show. -/
def State.sweepLine (s : State) : SweepLine :=
  ⟨s.currentAddress, s.result, s.text, s.target, s.returnEquivalent⟩

/-- The caller's inputs for one group of four bytes: the variant stays as the caller gave it. -/
def State.presentGroup (s : State) (b : Bytes4) : State :=
  { s with request := .decode, bufPresent := true, len := 4, bytes := b, sinkPresent := true }

/-- The caller goes on to the next address, modulo 2^32 (R24). -/
def State.nextAddress (s : State) : State :=
  { s with currentAddress := s.currentAddress + 4 }

/-- The sweep, one line per four bytes, stopping at the end of the buffer; an error leaves its line and
the sweep goes on (92_eei_decisions.md D33). -/
def sweep : List Byte → State → List SweepLine
  | b0 :: b1 :: b2 :: b3 :: rest, s =>
    match step (s.presentGroup ⟨b0, b1, b2, b3⟩) with
    | .next t => t.sweepLine :: sweep rest t.nextAddress
    | .fault _ => []
    | .refused _ => []
  | _, _ => []

end Sys2Proof.Machine
end

