-- ==== Sys2Proof/Safety.lean ====
section
/-! DEFINITION. The terms the claims use: what every result of `decode` looks like (spec/10_state.md
R30), what the ports hold after a step, and what the spec asks of an instantiation of the Catalog
(spec/42_catalog_dispatch.md R107, R108). -/

namespace Sys2Proof.Machine

/-- A value the sign-extend unit can give: a multiple of 4 in -131072 to 131068 (R30 (e), R79). -/
def isDisplacement (v : Word) : Bool :=
  decide (v.toInt % 4 = 0) && decide (-131072 ≤ v.toInt) && decide (v.toInt ≤ 131068)

/-- The range of an operand's value by its type (R30 (c) to (f)). -/
def Operand.inRange (o : Operand) : Bool :=
  match o.type with
  | .unused => o.value == 0
  | .register => decide (o.value.toNat ≤ 255)
  | .jumpDisplacement => isDisplacement o.value
  | .immediate => isDisplacement o.value || decide (o.value.toNat ≤ 65535)

/-- The set slots form a prefix: every slot after the first `Unused` slot is `Unused` (R30 (b)). -/
def Slots.setSlotsArePrefix (ops : Slots) : Bool :=
  (ops.toList.dropWhile (fun o => o.type != .unused)).all (fun o => o.type == .unused)

/-- What R30 says of a Decoded Instruction that `decode` gives: the set slots form a prefix and every
operand is in its range. -/
def DecodedInstr.wellFormed (d : DecodedInstr) : Bool :=
  d.ops.setSlotsArePrefix && d.ops.toList.all Operand.inRange

/-- The output ports agree with each other: an `ok` result is well formed and the consumers' ports
show what they make of it, a text among them; an `err` result stands alone (R30, R46, R160, R173). -/
def State.portsAgree (s : State) : Prop :=
  match s.result with
  | .idle => True
  | .driven (.err _) => s.target = .idle ∧ s.returnEquivalent = .idle ∧ s.text = .idle
  | .driven (.ok d) =>
    d.wellFormed = true ∧
    s.target = .driven (resolveTarget s.currentAddress d) ∧
    s.returnEquivalent = .driven (isReturnEquivalent s.params.icallMnemonic d) ∧
    ∃ t, render s.bufferSizeHint s.currentAddress d = some t ∧ s.text = .driven (some t)

/-- What the spec asks of the hardware's own parameters: the attested entry is the one selected for
opcode byte 0x14 when no variant is passed and the two attested buffers are not the no-op literal
(R107 (c), R108), and some entry with the literal's opcode byte has another mnemonic than the
literal's (R107 (d)). -/
def paramsMeetSpec (p : Params) : Bool :=
  ((scan p.compat.admits p.catalog none 0x14).any (fun e => e.rule == .RRM))
    && p.nopLiteral != ⟨0x14, 0x01, 0x02, 0x03⟩ && p.nopLiteral != ⟨0x14, 0x01, 0x02, 0x83⟩
    && p.catalog.any (fun e => e.opcode == p.nopLiteral.b0 && e.mnemonic != p.nopMnemonic)

/-- The invariant of the machine: the parameters meet the spec's constraints and the output ports agree. -/
def State.Inv (s : State) : Prop :=
  paramsMeetSpec s.params = true ∧ s.portsAgree

/-- Two states that differ in nothing but the output ports. -/
def State.sameInputs (s t : State) : Prop :=
  s.params = t.params ∧ s.request = t.request ∧ s.bufPresent = t.bufPresent ∧ s.len = t.len ∧
  s.bytes = t.bytes ∧ s.cpuVariant = t.cpuVariant ∧ s.sinkPresent = t.sinkPresent ∧
  s.currentAddress = t.currentAddress ∧ s.bufferSizeHint = t.bufferSizeHint

/-! ## Words for the claims -/

/-- A register operand: the byte as a register number (R23). -/
def regOp (v : Byte) : Operand := ⟨.register, v.setWidth 32⟩

/-- An immediate operand: an unsigned number of any width up to 32 bits (R80). -/
def immOp {n : Nat} (v : BitVec n) : Operand := ⟨.immediate, v.setWidth 32⟩

/-- The unused sentinel (R17). -/
def unusedOp : Operand := ⟨.unused, 0⟩

/-- An operand the mode bit `m` types: an immediate if it is set, else a register (R103). -/
def regOrImmOp (m : Bool) (v : Byte) : Operand := if m then immOp v else regOp v

/-- The 18-bit field `b[1]`, `b[3]`, 00 sign-extended: `sext_18(raw)` of R79. -/
def sext18 (b1 b3 : Byte) : Word := (b1 ++ b3 ++ (0 : BitVec 2)).signExtend 32

/-- The ports after `decode` answers `ok(d)` when `resolve_target` answers `t`; every input stays. -/
def State.afterOk (s : State) (d : DecodedInstr) (t : Option Word) : State :=
  { s with
    result := .driven (.ok d)
    target := .driven t
    returnEquivalent := .driven (isReturnEquivalent s.params.icallMnemonic d)
    text := .driven (render s.bufferSizeHint s.currentAddress d) }

/-- The ports after `decode` answers `err(e)`: nothing else is produced; every input stays. -/
def State.afterErr (s : State) (e : DecodeError) : State :=
  { s with result := .driven (.err e), target := .idle, returnEquivalent := .idle, text := .idle }

/-- The mode bit as a bit of the word: bit 16 at the default `M_SEL` (R10, R78). -/
def selectedBit (l : Layout) (b : Bytes4) : Bool :=
  b.toWord.getLsbD (8 * (3 - l.mSel.byte) + l.mSel.bit)

/-- The word with the mode bit alone. -/
def modeMask (l : Layout) : Word :=
  1 <<< (8 * (3 - l.mSel.byte.val) + l.mSel.bit.val)

/-- The word with the two narrow ranges of byte 3 alone. -/
def narrowMask (l : Layout) : Word :=
  (3 <<< l.narrowI2.first.val) ||| (3 <<< l.narrowI2.second.val)

/-- The bits of the word that the format of kind `k` reads; the others are ignored (R49, R55). At the
spec's layout the mode bit is bit 16 and the narrow ranges are bits 3 to 0. -/
def readMask (l : Layout) : RuleKind → Word
  | .RRM => 0x00FFFFFF ||| modeMask l
  | .RRR => 0x00FFFFFF
  | .RI16 => 0x00FFFFFF
  | .RDISP => 0x00FFFFFF ||| modeMask l
  | .DISP => 0x00FF00FF ||| modeMask l
  | .LDST => 0x00FFFFFF ||| modeMask l
  | .ICALL => 0x0000FFFF
  | .RRI2 => 0x00FFFF03
  | .CLZ => 0x00FF00FF ||| modeMask l
  | .CVT6 => 0x00FFFFFF
  | .RCRA => 0x00FFFF00
  | .MAC => 0x00FFFF00
  | .R1R3 => 0x00FF00FF
  | .RB => 0x000000FF
  | .RC_I2I2 => 0x00FF0000 ||| narrowMask l
  | .RA_I2I2 => 0x0000FF00 ||| narrowMask l
  | .MFSR => 0x00FFFF00
  | .MTSR => 0x0000FFFF
  | .NONE => 0x00000000

/-- The operand-type tuple of kind `k` with mode bit `m` (R102). -/
def shapeOfKind (k : RuleKind) (m : Bool) : List SemType :=
  match k with
  | .RRM => if m then [.register, .register, .immediate] else [.register, .register, .register]
  | .RRR => [.register, .register, .register]
  | .RI16 => [.register, .immediate]
  | .RDISP => if m then [.register, .immediate] else [.register, .jumpDisplacement]
  | .DISP => if m then [.jumpDisplacement] else [.immediate]
  | .LDST =>
    if m then [.immediate, .immediate, .register, .immediate]
    else [.immediate, .immediate, .register, .register]
  | .ICALL => [.register, .register]
  | .RRI2 => [.register, .register, .immediate]
  | .CLZ => if m then [.register, .immediate] else [.register, .register]
  | .CVT6 => [.register, .register, .immediate, .immediate, .immediate, .immediate]
  | .RCRA => [.register, .register]
  | .MAC => [.immediate, .immediate, .register, .register]
  | .R1R3 => [.register, .register]
  | .RB => [.register]
  | .RC_I2I2 => [.register, .immediate, .immediate]
  | .RA_I2I2 => [.register, .immediate, .immediate]
  | .MFSR => [.register, .register]
  | .MTSR => [.register, .register]
  | .NONE => []

/-- The number a digit stands for, lower-case letters from ten on (R133, R147). -/
def digitValue (c : Char) : Nat :=
  if c.toNat ≤ 57 then c.toNat - 48 else c.toNat - 87

/-- The number a list of digits stands for, most significant first. -/
def readDigits (base : Nat) (l : List Char) : Nat :=
  l.foldl (fun n c => n * base + digitValue c) 0

/-- The inputs pass validation (R112). -/
def inputsValid (p : Params) (bufPresent : Bool) (len : Nat) (cpuVariant : Option String)
    (sinkPresent : Bool) : Prop :=
  bufPresent = true ∧ 4 ≤ len ∧ sinkPresent = true ∧
    ∀ v, cpuVariant = some v → p.variantMinLen ≤ v.length

end Sys2Proof.Machine
end

