-- ==== Sys2Proof/Certificates/Slice0/Obligations.lean ====
section
/-! DEFINITION. The statements for the provers. Each docstring says which rules of spec/ it formalises;
where a statement rests on a choice of the model or on a decision of the spec, it names it. A next
state is written out as the state before with the output ports it changes, so each such equation is
the instruction's frame too: the block has no memory, register or flag (spec/10_state.md R13, R26). -/

open Sys2Proof Sys2Proof.Machine

/-- R74: after any decode rule no slot keeps a value from before the rule. -/
def Obligations.EveryRuleSetsAllSixSlots : Prop :=
  ∀ (l : Layout) (k : RuleKind) (ops ops' : Slots) (b : Bytes4),
    fillSlots l k ops b = fillSlots l k ops' b

/-- R70, R71, R72: the operand tagger writes one slot and leaves the other five. -/
def Obligations.TaggerWritesOneSlot : Prop :=
  ∀ (ops : Slots) (i j : Fin 6) (t : SemType) (v : Word),
    (ops.set i t v).get i = ⟨t, v⟩ ∧ (ops.markUnused i).get i = unusedOp ∧
    (j ≠ i → (ops.set i t v).get j = ops.get j ∧ (ops.markUnused i).get j = ops.get j)

/-- R75 with the spec's decision D23: arity and shape of any six slots. -/
def Obligations.ArityIsTheFirstUnusedSlot : Prop :=
  ∀ (ops : Slots),
    ops.arity ≤ 6 ∧ ops.shape.length = ops.arity ∧
    ∀ i : Fin 6,
      (i.val < ops.arity ↔ ∀ j : Fin 6, j ≤ i → (ops.get j).type ≠ .unused) ∧
      (i.val < ops.arity → ops.shape[i.val]? = some (ops.get i).type)

/-- R87, R88, R91, R93, R94, R99: the six slots of each kind. -/
def Obligations.SourceWordedRegisterKinds : Prop :=
  ∀ (l : Layout) (ops : Slots) (b0 b1 b2 b3 : Byte),
    fillSlots l .ICALL ops ⟨b0, b1, b2, b3⟩ =
      ⟨regOp b2, regOp b3, unusedOp, unusedOp, unusedOp, unusedOp⟩ ∧
    fillSlots l .RRI2 ops ⟨b0, b1, b2, b3⟩ =
      ⟨regOp b1, regOp b2, immOp (b3 &&& 3), unusedOp, unusedOp, unusedOp⟩ ∧
    fillSlots l .RCRA ops ⟨b0, b1, b2, b3⟩ =
      ⟨regOp b1, regOp b2, unusedOp, unusedOp, unusedOp, unusedOp⟩ ∧
    fillSlots l .R1R3 ops ⟨b0, b1, b2, b3⟩ =
      ⟨regOp b1, regOp b3, unusedOp, unusedOp, unusedOp, unusedOp⟩ ∧
    fillSlots l .RB ops ⟨b0, b1, b2, b3⟩ =
      ⟨regOp b3, unusedOp, unusedOp, unusedOp, unusedOp, unusedOp⟩ ∧
    fillSlots l .NONE ops ⟨b0, b1, b2, b3⟩ =
      ⟨unusedOp, unusedOp, unusedOp, unusedOp, unusedOp, unusedOp⟩

/-- R81, R84, R85, R89: the six slots of each kind, typed by the bit that `M_SEL` selects; at the default
`M_SEL` it is the low bit of byte 1 (R78). -/
def Obligations.ModeBitAndDisplacementKinds : Prop :=
  ∀ (l : Layout) (ops : Slots) (b0 b1 b2 b3 : Byte),
    fillSlots l .RRM ops ⟨b0, b1, b2, b3⟩ =
      ⟨regOp b1, regOp b2, regOrImmOp (selectedBit l ⟨b0, b1, b2, b3⟩) b3, unusedOp, unusedOp, unusedOp⟩ ∧
    fillSlots l .RDISP ops ⟨b0, b1, b2, b3⟩ =
      ⟨regOp b2, ⟨if (selectedBit l ⟨b0, b1, b2, b3⟩) then .immediate else .jumpDisplacement, sext18 b1 b3⟩, unusedOp, unusedOp, unusedOp, unusedOp⟩ ∧
    fillSlots l .DISP ops ⟨b0, b1, b2, b3⟩ =
      ⟨⟨if (selectedBit l ⟨b0, b1, b2, b3⟩) then .jumpDisplacement else .immediate, sext18 b1 b3⟩, unusedOp, unusedOp, unusedOp, unusedOp, unusedOp⟩ ∧
    fillSlots l .CLZ ops ⟨b0, b1, b2, b3⟩ =
      ⟨regOp b1, regOrImmOp (selectedBit l ⟨b0, b1, b2, b3⟩) b3, unusedOp, unusedOp, unusedOp, unusedOp⟩ ∧
    selectedBit specLayout ⟨b0, b1, b2, b3⟩ = b1.getLsbD 0

/-- R82, R83, R86, R90, R92, R95 to R98, which rest on the spec's decisions D10 to D13, D29, D34
(notes/assumptions/12.md, 13.md). -/
def Obligations.SpecDecidedKinds : Prop :=
  ∀ (l : Layout) (ops : Slots) (b0 b1 b2 b3 : Byte),
    fillSlots l .RRR ops ⟨b0, b1, b2, b3⟩ =
      ⟨regOp b1, regOp b2, regOp b3, unusedOp, unusedOp, unusedOp⟩ ∧
    fillSlots l .RI16 ops ⟨b0, b1, b2, b3⟩ =
      ⟨regOp b2, immOp (b1 ++ b3), unusedOp, unusedOp, unusedOp, unusedOp⟩ ∧
    fillSlots l .LDST ops ⟨b0, b1, b2, b3⟩ =
      ⟨immOp (b1.extractLsb' 7 1), immOp (b1.extractLsb' 0 7), regOp b2, regOrImmOp (selectedBit l ⟨b0, b1, b2, b3⟩) b3, unusedOp, unusedOp⟩ ∧
    fillSlots l .CVT6 ops ⟨b0, b1, b2, b3⟩ =
      ⟨regOp b1, regOp b2, immOp (b3.extractLsb' 7 1), immOp (b3.extractLsb' 4 3), immOp (b3.extractLsb' 2 2), immOp (b3.extractLsb' 0 2)⟩ ∧
    fillSlots l .RC_I2I2 ops ⟨b0, b1, b2, b3⟩ =
      ⟨regOp b1, immOp (b3.extractLsb' l.narrowI2.first 2), immOp (b3.extractLsb' l.narrowI2.second 2), unusedOp, unusedOp, unusedOp⟩ ∧
    fillSlots l .RA_I2I2 ops ⟨b0, b1, b2, b3⟩ =
      ⟨regOp b2, immOp (b3.extractLsb' l.narrowI2.first 2), immOp (b3.extractLsb' l.narrowI2.second 2), unusedOp, unusedOp, unusedOp⟩ ∧
    fillSlots l .MAC ops ⟨b0, b1, b2, b3⟩ =
      ⟨immOp (b1.extractLsb' 2 4), immOp (b1.extractLsb' 0 2), regOp b1, regOp b2, unusedOp, unusedOp⟩ ∧
    fillSlots l .MFSR ops ⟨b0, b1, b2, b3⟩ =
      ⟨regOp b1, regOp b2, unusedOp, unusedOp, unusedOp, unusedOp⟩ ∧
    fillSlots l .MTSR ops ⟨b0, b1, b2, b3⟩ =
      ⟨regOp b2, regOp b3, unusedOp, unusedOp, unusedOp, unusedOp⟩ ∧
    fillSlots specLayout .RC_I2I2 ops ⟨b0, b1, b2, b3⟩ =
      ⟨regOp b1, immOp (b3.extractLsb' 2 2), immOp (b3.extractLsb' 0 2), unusedOp, unusedOp, unusedOp⟩ ∧
    fillSlots specLayout .RA_I2I2 ops ⟨b0, b1, b2, b3⟩ =
      ⟨regOp b2, immOp (b3.extractLsb' 2 2), immOp (b3.extractLsb' 0 2), unusedOp, unusedOp, unusedOp⟩

/-- R79: `sign_extend_unit`. -/
def Obligations.DisplacementIsTheSignExtendedField : Prop :=
  (∀ (b : Bytes4),
    (rawDisp b).toNat = b.b1.toNat * 1024 + b.b3.toNat * 4 ∧
    scaledDisp b = (if (rawDisp b).getLsbD 17 then (rawDisp b).setWidth 32 ||| 0xFFFC0000
      else (rawDisp b).setWidth 32) ∧
    scaledDisp b = (rawDisp b).signExtend 32 ∧
    (rawDisp b).getLsbD 17 = b.b1.getLsbD 7 ∧
    (scaledDisp b).toInt = (rawDisp b).toNat - (if 128 ≤ b.b1.toNat then 262144 else 0) ∧
    (scaledDisp b).toInt % 4 = 0 ∧
    -131072 ≤ (scaledDisp b).toInt ∧ (scaledDisp b).toInt ≤ 131068) ∧
  ∀ b0 b2 : Byte, (scaledDisp ⟨b0, 0x80, b2, 0x00⟩).toInt = -131072 ∧
    (scaledDisp ⟨b0, 0x7F, b2, 0xFF⟩).toInt = 131068 ∧
    scaledDisp ⟨b0, 0xFE, b2, 0xFF⟩ = 0xFFFFFBFC

/-- R49 and R55: ignored bits change no output; the bits read can be recovered from the operands. -/
def Obligations.OperandsDetermineTheReadBits : Prop :=
  ∀ (l : Layout) (k : RuleKind) (b b' : Bytes4),
    applyRule l k b = applyRule l k b' ↔
      b.toWord &&& readMask l k = b'.toWord &&& readMask l k

/-- R30: what every `ok` result of `decode` looks like, whatever the Catalog. -/
def Obligations.DecodeResultsAreWellFormed : Prop :=
  ∀ (compat : Applicability → Option String → Bool) (p : Params) (bufPresent : Bool) (len : Nat)
    (b : Bytes4) (v : Option String) (sinkPresent : Bool) (d : DecodedInstr),
    decodeWith compat p bufPresent len b v sinkPresent = .ok d → d.wellFormed = true

/-- R105, R114, R115, R116: the priority list, matched linearly. -/
def Obligations.DispatcherTakesTheFirstMatch : Prop :=
  ∀ (compat : Applicability → Option String → Bool) (p : Params) (len : Nat) (b : Bytes4)
    (v : Option String), inputsValid p true len v true → b ≠ p.nopLiteral →
    (∀ (before after : List CatalogEntry) (e : CatalogEntry), p.catalog = before ++ e :: after →
      (∀ x ∈ before, ¬ (x.opcode = b.b0 ∧ compat x.app v = true)) →
      e.opcode = b.b0 → compat e.app v = true →
      decodeWith compat p true len b v true = .ok ⟨e.mnemonic, e.cls, applyRule p.layout e.rule b⟩) ∧
    ((∀ x ∈ p.catalog, ¬ (x.opcode = b.b0 ∧ compat x.app v = true)) →
      decodeWith compat p true len b v true = .err .unknownOpcode)

/-- R113: the pre-check, on all 32 bits, before the Catalog. -/
def Obligations.NoOpLiteralIsCheckedFirst : Prop :=
  ∀ (compat : Applicability → Option String → Bool) (p : Params) (len : Nat) (v : Option String),
    inputsValid p true len v true →
    decodeWith compat p true len p.nopLiteral v true =
      .ok ⟨p.nopMnemonic, .nop, ⟨unusedOp, unusedOp, unusedOp, unusedOp, unusedOp, unusedOp⟩⟩ ∧
    ∀ b : Bytes4, b.toWord ≠ p.nopLiteral.toWord →
      decodeWith compat p true len b v true =
        match scan compat p.catalog v b.b0 with
        | some e => .ok ⟨e.mnemonic, e.cls, applyRule p.layout e.rule b⟩
        | none => .err .unknownOpcode

/-- R157: the causes of `InvalidInput`. The length and sink ports are the spec's decisions D15 and D28; the
least length of a variant is the parameter of D16 (5 at reset, notes/assumptions/13.md), counted in Unicode
characters (notes/assumptions/18.md). -/
def Obligations.InvalidInputExactly : Prop :=
  ∀ (compat : Applicability → Option String → Bool) (p : Params) (bufPresent : Bool) (len : Nat)
    (b : Bytes4) (v : Option String) (sinkPresent : Bool),
    decodeWith compat p bufPresent len b v sinkPresent = .err .invalidInput ↔
      bufPresent = false ∨ len < 4 ∨ sinkPresent = false ∨
        ∃ n, v = some n ∧ n.length < p.variantMinLen

/-- R116 and R158: the block's only illegal-instruction signal. Validation is that of R112, with the least
variant length a parameter (D16, notes/assumptions/13.md, 18.md). -/
def Obligations.UnknownOpcodeExactly : Prop :=
  ∀ (compat : Applicability → Option String → Bool) (p : Params) (bufPresent : Bool) (len : Nat)
    (b : Bytes4) (v : Option String) (sinkPresent : Bool),
    decodeWith compat p bufPresent len b v sinkPresent = .err .unknownOpcode ↔
      inputsValid p bufPresent len v sinkPresent ∧ b ≠ p.nopLiteral ∧
      ∀ e ∈ p.catalog, ¬ (e.opcode = b.b0 ∧ compat e.app v = true)

/-- R105 and R106: a lower index wins; a second entry of the same opcode byte and applicability is unreachable. -/
def Obligations.LaterEntriesNeverMatter : Prop :=
  ∀ (compat : Applicability → Option String → Bool) (p : Params) (bufPresent : Bool) (len : Nat)
    (b : Bytes4) (v : Option String) (sinkPresent : Bool),
    (∀ (more : List CatalogEntry) (d : DecodedInstr),
      decodeWith compat p bufPresent len b v sinkPresent = .ok d →
      decodeWith compat { p with catalog := p.catalog ++ more } bufPresent len b v sinkPresent = .ok d) ∧
    ∀ (before between after : List CatalogEntry) (e e' : CatalogEntry),
      e'.opcode = e.opcode → e'.app = e.app →
      decodeWith compat { p with catalog := before ++ e :: between ++ e' :: after }
          bufPresent len b v sinkPresent =
        decodeWith compat { p with catalog := before ++ e :: between ++ after }
          bufPresent len b v sinkPresent

/-- R118: the table equivalent to the priority list, and `decode` as its lookup. -/
def Obligations.RomViewHoldsTheScan : Prop :=
  ∀ (compat : Applicability → Option String → Bool) (p : Params) (v : Option String),
    (romView compat p.catalog v).length = 256 ∧
    (∀ (x : Byte) (e : CatalogEntry),
      (romView compat p.catalog v)[x.toNat]? = some (some e) ↔
        e.opcode = x ∧ compat e.app v = true ∧
        ∃ before after, p.catalog = before ++ e :: after ∧
          ∀ y ∈ before, ¬ (y.opcode = x ∧ compat y.app v = true)) ∧
    (∀ x : Byte, (romView compat p.catalog v)[x.toNat]? = some none ↔
      ∀ y ∈ p.catalog, ¬ (y.opcode = x ∧ compat y.app v = true)) ∧
    ∀ (len : Nat) (b : Bytes4), inputsValid p true len v true → b ≠ p.nopLiteral →
      decodeWith compat p true len b v true =
        match (romView compat p.catalog v)[b.b0.toNat]? with
        | some (some e) => .ok ⟨e.mnemonic, e.cls, applyRule p.layout e.rule b⟩
        | some none => .err .unknownOpcode
        | none => .err .unknownOpcode

/-- R119, with the default `COMPAT` of R110 (the spec's decision D5; notes/assumptions/5.md). -/
def Obligations.VariantDoesNotGateTheDispatch : Prop :=
  (∀ (compat : Applicability → Option String → Bool),
    (∀ app v v', compat app v = compat app v') →
    ∀ (p : Params) (bufPresent : Bool) (len : Nat) (b : Bytes4) (v v' : Option String)
      (sinkPresent : Bool),
      (∀ n, v = some n → p.variantMinLen ≤ n.length) →
      (∀ n, v' = some n → p.variantMinLen ≤ n.length) →
      decodeWith compat p bufPresent len b v sinkPresent =
        decodeWith compat p bufPresent len b v' sinkPresent) ∧
  ∀ (x y : Bool) (app : Applicability) (v v' : Option String),
    (Compat.byLabel x y).admits app v = (Compat.byLabel x y).admits app v'

/-- R110 (a), the two instantiations of D5, and that the parameter of the state ranges over every `COMPAT`
that meets R110 (a), as R9 asks (notes/assumptions/5.md). -/
def Obligations.CompatibilityOfEntries : Prop :=
  (∀ (c : Compat) (v : Option String), c.admits .any v = true) ∧
  (∀ (x y : Bool) (v : Option String),
    (Compat.byLabel x y).admits .familyA v = x ∧ (Compat.byLabel x y).admits .familyB v = y) ∧
  (∀ (table : List (String × Family)) (app : Applicability) (v : Option String),
    (Compat.gated table).admits app v = true ↔
      app = .any ∨ ∃ n f, v = some n ∧ table.lookup n = some f ∧ f.app = app) ∧
  ∀ (check : Applicability → Option String → Bool) (variants : List (Option String)),
    (∀ v, check .any v = true) →
    ∃ c : Compat, ∀ app, ∀ v ∈ variants, c.admits app v = check app v

/-- R108 and 95 S8: what this spec's rules give for the source's two buffers, at any `M_SEL` and at that of C1. -/
def Obligations.AttestedBuffersDecode : Prop :=
  ∀ p : Params, paramsMeetSpec p = true →
    ∃ mnemonic cls,
      (∀ b3 ∈ [(0x03 : Byte), 0x83],
        decodeWith p.compat.admits p true 4 ⟨0x14, 0x01, 0x02, b3⟩ none true =
          .ok ⟨mnemonic, cls, ⟨regOp 1, regOp 2,
            regOrImmOp (selectedBit p.layout ⟨0x14, 0x01, 0x02, b3⟩) b3,
            unusedOp, unusedOp, unusedOp⟩⟩) ∧
      (p.layout.mSel = specLayout.mSel →
        decodeWith p.compat.admits p true 4 ⟨0x14, 0x01, 0x02, 0x03⟩ none true =
          .ok ⟨mnemonic, cls, ⟨regOp 1, regOp 2, immOp (3 : Byte), unusedOp, unusedOp, unusedOp⟩⟩ ∧
        decodeWith p.compat.admits p true 4 ⟨0x14, 0x01, 0x02, 0x83⟩ none true =
          .ok ⟨mnemonic, cls,
            ⟨regOp 1, regOp 2, immOp (0x83 : Byte), unusedOp, unusedOp, unusedOp⟩⟩)

/-- R124: the two resolvable shapes and the sum modulo 2^32. -/
def Obligations.TargetExactlyForTwoShapes : Prop :=
  ∀ (a t : Word) (d : DecodedInstr),
    resolveTarget a d = some t ↔
      ((d.ops.get 0).type = .jumpDisplacement ∧ (d.ops.get 1).type = .unused ∧
        t.toNat = (a.toNat + (d.ops.get 0).value.toNat) % 2 ^ 32) ∨
      ((d.ops.get 0).type = .register ∧ (d.ops.get 1).type = .jumpDisplacement ∧
        (d.ops.get 2).type = .unused ∧
        t.toNat = (a.toNat + (d.ops.get 1).value.toNat) % 2 ^ 32)

/-- R123 and R125: which decoded words have a target. -/
def Obligations.DecodedTargetsComeFromTwoKinds : Prop :=
  ∀ (l : Layout) (mnemonic : String) (cls : InstrClass) (k : RuleKind) (b : Bytes4) (a t : Word),
    resolveTarget a ⟨mnemonic, cls, applyRule l k b⟩ = some t ↔
      ((k = .DISP ∧ selectedBit l b = true) ∨ (k = .RDISP ∧ selectedBit l b = false)) ∧
      t = a + sext18 b.b1 b.b3

/-- R129 and R37: alignment of targets. -/
def Obligations.TargetsKeepTheAddressResidue : Prop :=
  ∀ (compat : Applicability → Option String → Bool) (p : Params) (bufPresent : Bool) (len : Nat)
    (b : Bytes4) (v : Option String) (sinkPresent : Bool) (d : DecodedInstr) (a t : Word),
    decodeWith compat p bufPresent len b v sinkPresent = .ok d → resolveTarget a d = some t →
    t.toNat % 4 = a.toNat % 4 ∧ -131072 ≤ (t - a).toInt ∧ (t - a).toInt ≤ 131068

/-- R126, values compared whatever their tags (the spec's decision D24). -/
def Obligations.ReturnEquivalentExactly : Prop :=
  (∀ (icall : String) (d : DecodedInstr),
    isReturnEquivalent icall d = true ↔
      d.mnemonic = icall ∧ (d.ops.get 0).value = 128 ∧ (d.ops.get 1).value = 128) ∧
  ∀ (l : Layout) (icall : String) (cls : InstrClass) (b : Bytes4),
    isReturnEquivalent icall ⟨icall, cls, applyRule l .ICALL b⟩ = true ↔ b.b2 = 0x80 ∧ b.b3 = 0x80

/-- R127, for Catalogs with no entry of kind RDISP under the indirect-call mnemonic: only such an entry could
be both (NOTES.md). -/
def Obligations.ReturnEquivalentNeverResolves : Prop :=
  ∀ (compat : Applicability → Option String → Bool) (p : Params) (bufPresent : Bool) (len : Nat)
    (b : Bytes4) (v : Option String) (sinkPresent : Bool) (d : DecodedInstr) (a : Word),
    (∀ e ∈ p.catalog, e.mnemonic = p.icallMnemonic → e.rule ≠ .RDISP) →
    decodeWith compat p bufPresent len b v sinkPresent = .ok d →
    isReturnEquivalent p.icallMnemonic d = true → resolveTarget a d = none

/-- R132 and R133 (decimal: the spec's decision D21; refusal above 255: D25). -/
def Obligations.RegisterNames : Prop :=
  (∀ v : Word,
    (v.toNat ≤ 127 → mapReg v = some (.gr, v.toNat) ∧ regText v = some ("gr" ++ decText v.toNat)) ∧
    (128 ≤ v.toNat → v.toNat ≤ 255 →
      mapReg v = some (.lr, v.toNat - 127) ∧ regText v = some ("lr" ++ decText (v.toNat - 127))) ∧
    (256 ≤ v.toNat → mapReg v = none ∧ regText v = none)) ∧
  regText 5 = some "gr5" ∧ regText 133 = some "lr6" ∧ regText 127 = some "gr127" ∧
  regText 128 = some "lr1" ∧ regText 255 = some "lr128"

/-- R12, R132, R133: two non-overlapping namespaces. -/
def Obligations.RegisterNamesAreDistinct : Prop :=
  ∀ (v v' : Word) (t : String), regText v = some t → regText v' = some t → v = v'

/-- R133, R147 and R148 (digits: the spec's decision D21). -/
def Obligations.NumberTextReadsBack : Prop :=
  (∀ n : Nat,
    readDigits 10 (decText n).toList = n ∧ readDigits 16 (hexText n).toList = n ∧
    (∀ c ∈ (decText n).toList, c ∈ "0123456789".toList) ∧
    (∀ c ∈ (hexText n).toList, c ∈ "0123456789abcdef".toList) ∧
    ((decText n).toList.head? = some '0' → decText n = "0") ∧
    ((hexText n).toList.head? = some '0' → hexText n = "0")) ∧
  (∀ v : Word, addrText v = "0x" ++ hexText v.toNat ∧
    (0 ≤ v.toInt → immText v = "0x" ++ hexText v.toNat) ∧
    (v.toInt < 0 → immText v = "-0x" ++ hexText (2 ^ 32 - v.toNat))) ∧
  ∀ v v' : Word, (immText v = immText v' → v = v') ∧ (addrText v = addrText v' → v = v')

/-- R173: no result of `decode` can reach the mapper's refusal. -/
def Obligations.DecodedInstructionsAlwaysRender : Prop :=
  ∀ (compat : Applicability → Option String → Bool) (p : Params) (bufPresent : Bool) (len : Nat)
    (b : Bytes4) (v : Option String) (sinkPresent : Bool) (d : DecodedInstr) (n : Nat) (a : Word),
    decodeWith compat p bufPresent len b v sinkPresent = .ok d → ∃ t, render n a d = some t

/-- R132, R146 and D25: the one refusal the spec adds, on hand-built instructions. -/
def Obligations.RenderRefusesOnlyHighRegisters : Prop :=
  ∀ (n : Nat) (a : Word) (d : DecodedInstr),
    (render n a d = none ↔ d.ops.shape ∈ recognisedShapes ∧
      ∃ i : Fin 6, i.val < d.ops.arity ∧ (d.ops.get i).type = .register ∧
        255 < (d.ops.get i).value.toNat) ∧
    (d.ops.shape ∉ recognisedShapes → fullText a d = some d.mnemonic)

/-- R149 (the reserved place: the spec's decision D22). -/
def Obligations.TextNeverExceedsTheLimit : Prop :=
  ∀ (n : Nat) (a : Word) (d : DecodedInstr) (t : String), render n a d = some t →
    ∃ full, fullText a d = some full ∧ t.toList <+: full.toList ∧ t.length ≤ n - 1 ∧
      (full.length ≤ n - 1 → t = full) ∧ (n - 1 ≤ full.length → t.length = n - 1)

/-- R136 to R143: text and producing kinds of the eight shapes of one to three operands. The single spaces are
the spec's decision D21 (R135), the shape of hand-built slots D23, the producing kinds rest on D13 and D29
(notes/assumptions/12.md). -/
def Obligations.TextOfTheSourceShapes : Prop :=
  (∀ (a : Word) (d : DecodedInstr),
    (d.ops.shape = [.register] → ∀ r0, regText (d.ops.get 0).value = some r0 → 
      fullText a d = some (d.mnemonic ++ " " ++ r0)) ∧
    (d.ops.shape = [.immediate] →
      fullText a d = some (d.mnemonic ++ " " ++ immText (d.ops.get 0).value)) ∧
    (d.ops.shape = [.jumpDisplacement] →
      fullText a d = some (d.mnemonic ++ " " ++ addrText (a + (d.ops.get 0).value))) ∧
    (d.ops.shape = [.register, .register] → ∀ r0, regText (d.ops.get 0).value = some r0 → 
      ∀ r1, regText (d.ops.get 1).value = some r1 → 
      fullText a d = some (d.mnemonic ++ " " ++ r0 ++ " " ++ r1)) ∧
    (d.ops.shape = [.register, .immediate] → ∀ r0, regText (d.ops.get 0).value = some r0 → 
      fullText a d = some (d.mnemonic ++ " " ++ r0 ++ " " ++ immText (d.ops.get 1).value)) ∧
    (d.ops.shape = [.register, .jumpDisplacement] → ∀ r0, regText (d.ops.get 0).value = some r0 → 
      fullText a d = some (d.mnemonic ++ " " ++ r0 ++ " " ++ addrText (a + (d.ops.get 1).value))) ∧
    (d.ops.shape = [.register, .register, .register] → ∀ r0, regText (d.ops.get 0).value = some r0 → 
      ∀ r1, regText (d.ops.get 1).value = some r1 → 
      ∀ r2, regText (d.ops.get 2).value = some r2 → 
      fullText a d = some (d.mnemonic ++ " " ++ r0 ++ " " ++ r1 ++ " " ++ r2)) ∧
    (d.ops.shape = [.register, .register, .immediate] → ∀ r0, regText (d.ops.get 0).value = some r0 → 
      ∀ r1, regText (d.ops.get 1).value = some r1 → 
      fullText a d = some (d.mnemonic ++ " " ++ r0 ++ " " ++ r1 ++ " " ++
        immText (d.ops.get 2).value))) ∧
  ∀ (l : Layout) (k : RuleKind) (b : Bytes4),
    ((applyRule l k b).shape = [.register] ↔ k = .RB) ∧
    ((applyRule l k b).shape = [.immediate] ↔ k = .DISP ∧ selectedBit l b = false) ∧
    ((applyRule l k b).shape = [.jumpDisplacement] ↔ k = .DISP ∧ selectedBit l b = true) ∧
    ((applyRule l k b).shape = [.register, .register] ↔
      k ∈ [RuleKind.ICALL, .RCRA, .R1R3, .MFSR, .MTSR] ∨ (k = .CLZ ∧ selectedBit l b = false)) ∧
    ((applyRule l k b).shape = [.register, .immediate] ↔
      k = .RI16 ∨ (k ∈ [RuleKind.CLZ, .RDISP] ∧ selectedBit l b = true)) ∧
    ((applyRule l k b).shape = [.register, .jumpDisplacement] ↔ k = .RDISP ∧ selectedBit l b = false) ∧
    ((applyRule l k b).shape = [.register, .register, .register] ↔
      k = .RRR ∨ (k = .RRM ∧ selectedBit l b = false)) ∧
    ((applyRule l k b).shape = [.register, .register, .immediate] ↔
      k = .RRI2 ∨ (k = .RRM ∧ selectedBit l b = true))

/-- R144, R145 (the spec's decision D32) and R146. -/
def Obligations.TextOfTheLongShapesAndOfAnyOther : Prop :=
  (∀ (a : Word) (d : DecodedInstr),
    (d.ops.shape = [.immediate, .immediate, .register, .register] → ∀ r2, regText (d.ops.get 2).value = some r2 → 
      ∀ r3, regText (d.ops.get 3).value = some r3 → 
      fullText a d = some (d.mnemonic ++ " " ++ immText (d.ops.get 0).value ++ " " ++
        immText (d.ops.get 1).value ++ " " ++ r2 ++ " " ++ r3)) ∧
    (d.ops.shape = [.register, .register, .immediate, .immediate, .immediate, .immediate] → ∀ r0, regText (d.ops.get 0).value = some r0 → 
      ∀ r1, regText (d.ops.get 1).value = some r1 → 
      fullText a d = some (d.mnemonic ++ " " ++ r0 ++ " " ++ r1 ++ " " ++
        immText (d.ops.get 2).value ++ " " ++ immText (d.ops.get 3).value ++ " " ++
        immText (d.ops.get 4).value ++ " " ++ immText (d.ops.get 5).value)) ∧
    (d.ops.shape ∉ recognisedShapes → fullText a d = some d.mnemonic)) ∧
  ∀ (l : Layout) (k : RuleKind) (b : Bytes4),
    (applyRule l k b).shape ∉ recognisedShapes ↔
      k ∈ [RuleKind.NONE, .RC_I2I2, .RA_I2I2] ∨ (k = .LDST ∧ selectedBit l b = true)

/-- R102 and R103: arity and shape per kind and mode bit. -/
def Obligations.ShapeOfEachKind : Prop :=
  ∀ (l : Layout) (k : RuleKind) (b : Bytes4),
    (applyRule l k b).shape = shapeOfKind k (selectedBit l b)

/-- R150 (and R125). -/
def Obligations.AddressReadOnlyForDisplacements : Prop :=
  ∀ (d : DecodedInstr) (n : Nat) (a a' : Word),
    d.ops.shape ≠ [.jumpDisplacement] → d.ops.shape ≠ [.register, .jumpDisplacement] →
    render n a d = render n a' d ∧ resolveTarget a d = none

/-- R151: what `render` does not read; the same for `resolve_target` (R75, R122). -/
def Obligations.ConsumersReadOnlyTheShapesSlots : Prop :=
  ∀ (d d' : DecodedInstr), d.mnemonic = d'.mnemonic → d.ops.shape = d'.ops.shape →
    (∀ i : Fin 6, i.val < d.ops.arity → (d.ops.get i).value = (d'.ops.get i).value) →
    ∀ (n : Nat) (a : Word), render n a d = render n a d' ∧ resolveTarget a d = resolveTarget a d'

/-- R111, as one step of the machine (the step as a whole is the model's choice, notes/assumptions/6.md, 8.md). -/
def Obligations.StepRunsTheDecodedInstruction : Prop :=
  (∀ (s : State) (i : Instr), s.request = .decode →
    inputsValid s.params s.bufPresent s.len s.cpuVariant s.sinkPresent →
    decodeWord s.params s.cpuVariant s.bytes = .ok i → step s = exec i s) ∧
  (∀ (s : State) (e : DecodeError), s.request = .decode →
    inputsValid s.params s.bufPresent s.len s.cpuVariant s.sinkPresent →
    decodeWord s.params s.cpuVariant s.bytes = .error e → step s = .next (s.afterErr e)) ∧
  ∀ (s : State) (nbits w : Nat) (i : Instr), (∀ v, s.cpuVariant = some v → s.params.variantMinLen ≤ v.length) →
    decodeWord s.params s.cpuVariant (Bytes4.ofWord (BitVec.ofNat 32 (w % 2 ^ nbits))) = .ok i →
    step (s.withFetchWord nbits w) = exec i (s.withFetchWord nbits w)

/-- R186: every operation ends, on every input, with exactly one result. -/
def Obligations.EveryStepCompletes : Prop :=
  ∀ s : State, ∃ t, step s = .next t ∧
    (s.request = .decode → ∃ r, t.result = .driven r) ∧
    (∀ d, s.request = .consume d →
      (∃ x, t.target = .driven x) ∧ (∃ x, t.returnEquivalent = .driven x) ∧ ∃ x, t.text = .driven x)

/-- R13: no mutable state; every output is a function of the inputs and the constant parameters. -/
def Obligations.BlockIsStateless : Prop :=
  (∀ s t : State, step s = .next t → t.sameInputs s) ∧
  ∀ s s' t t' : State, s.sameInputs s' → step s = .next t → step s' = .next t' → t = t'

/-- R38 and R164: repeating an operation gives the same result. -/
def Obligations.SecondStepGivesTheSame : Prop :=
  ∀ s t : State, step s = .next t → step t = .next t

/-- R160: what an error records. That an error is a next state, with the three consumers' ports idle, is the
model's reading (notes/assumptions/9.md, DEDUCED). -/
def Obligations.ErrorsRecordNothing : Prop :=
  ∀ (s t : State) (e : DecodeError), step s = .next t → t.result = .driven (.err e) →
    s.request = .decode ∧ t = s.afterErr e

/-- R46 and R187, with the model's consume request (notes/assumptions/6.md, 10.md). -/
def Obligations.ConsumersTakeAnyInstruction : Prop :=
  ∀ (s : State) (d : DecodedInstr), s.request = .consume d →
    step s = .next { s with
      result := .idle
      target := .driven (resolveTarget s.currentAddress d)
      returnEquivalent := .driven (isReturnEquivalent s.params.icallMnemonic d)
      text := .driven (render s.bufferSizeHint s.currentAddress d) }

/-- R30, R107, R117, R160, R173: the invariant of the machine, kept by every step from every state that has it. -/
def Obligations.StepKeepsTheInvariant : Prop :=
  ∀ s t : State, s.Inv → step s = .next t → t.Inv

/-- R107, R108, R176, for the values the model chose for reset (notes/assumptions/1.md to 5.md, 7.md). -/
def Obligations.ResetMeetsTheInvariant : Prop :=
  State.reset.Inv ∧ State.reset.result = .idle ∧ State.reset.target = .idle ∧
    State.reset.returnEquivalent = .idle ∧ State.reset.text = .idle

/-- R111: the rows of the opcode table refine the dispatcher's algorithm over the Catalog, whatever `COMPAT` is
(R9; CompatibilityOfEntries says that the parameter reaches every such check). The data flow to the consumers
is notes/assumptions/6.md. -/
def Obligations.StepIsDecodeOfTheInputs : Prop :=
  ∀ (s : State) (check : Applicability → Option String → Bool), s.request = .decode →
    (∀ app, check app s.cpuVariant = s.params.compat.admits app s.cpuVariant) →
    step s = .next (match decodeWith check s.params s.bufPresent s.len s.bytes
        s.cpuVariant s.sinkPresent with
      | .ok d => s.afterOk d (resolveTarget s.currentAddress d)
      | .err e => s.afterErr e)

/-- R115: mnemonic and class copied unchanged, operands exactly the rule's, for each of the 220 rows with an entry. -/
def Obligations.MeaningCopiesItsEntry : Prop :=
  ∀ (i : Instr) (e : CatalogEntry) (s : State), i.entry = some e →
    exec i s = .next (s.afterOk
      ⟨e.mnemonic, e.cls, applyRule s.params.layout e.rule (encode s.params i)⟩
      (resolveTarget s.currentAddress
        ⟨e.mnemonic, e.cls, applyRule s.params.layout e.rule (encode s.params i)⟩))

/-- R48, R49: no bit of an encoding is dropped, for every row of the opcode table. -/
def Obligations.DecodeOfEncodeIsTheInstruction : Prop :=
  ∀ (p : Params) (v : Option String) (i : Instr), i.wellFormed = true → selects p v i = true →
    decodeWord p v (encode p i) = .ok i

/-- R48, R49, R114: each word has one meaning. -/
def Obligations.EncodeOfDecodeIsTheWord : Prop :=
  ∀ (p : Params) (v : Option String) (b : Bytes4) (i : Instr), decodeWord p v b = .ok i →
    encode p i = b ∧ i.wellFormed = true ∧ selects p v i = true

/-- R48, R49, R59: words of the opcode table, under the Catalog the model chose for reset (notes/assumptions/1.md). -/
def Obligations.WordsOfTheTable : Prop :=
  decodeTableWord 32 0b00010100000000100000001100000100 =
    some (.attested_14 .any "add" .unclassified 0x02 0x03 0x04) ∧
  decodeTableWord 32 0b01110000010000000000000100000001 = some .nopLiteral ∧
  decodeTableWord 32 0b01110000010000000000000100000000 = some (.aseq_70 0x40 0x01 0x00) ∧
  decodeTableWord 32 0b00000011000100100000010100110100 = some (.const_03 0x12 0x05 0x34) ∧
  decodeTableWord 32 0b00010110100000010000010100000110 = some (.load_16 0x81 0x05 0x06) ∧
  decodeTableWord 32 0b10100000111111110111011111111111 = some (.jmp_a0 0xFF 0x77 0xFF) ∧
  decodeTableWord 32 0b10101000111111101000000011111111 = some (.call_a8 0xFE 0x80 0xFF) ∧
  decodeTableWord 32 0b11001000000000001000000010000000 = some (.calli_c8 0x00 0x80 0x80) ∧
  decodeTableWord 32 0b11100100100000011000001010100110 = some (.convert_e4 0x81 0x82 0xA6) ∧
  decodeTableWord 32 0b11111001000000010000001000000011 = some (.fdmul_f9 0x01 0x02 0x03) ∧
  decodeTableWord 32 0 = none

/-- D33: the harness of 95_test_vectors.md section 4; it is the caller's, no part of the block. -/
def Obligations.SweepAnswersEachGroup : Prop :=
  ∀ (bytes : List Byte) (s : State),
    (sweep bytes s).length = bytes.length / 4 ∧
    ∀ (k : Nat) (b0 b1 b2 b3 : Byte), bytes[4 * k]? = some b0 → bytes[4 * k + 1]? = some b1 →
      bytes[4 * k + 2]? = some b2 → bytes[4 * k + 3]? = some b3 →
      ∃ line, (sweep bytes s)[k]? = some line ∧
        line.address = s.currentAddress + BitVec.ofNat 32 (4 * k) ∧
        line.result = .driven (decodeWith s.params.compat.admits s.params true 4 ⟨b0, b1, b2, b3⟩
          s.cpuVariant true)

/-- R113: the result of the no-op literal, and its frame. It has no target by R125; that the consumers' ports
are driven in the same step is the model's choice (R46, notes/assumptions/6.md). -/
def Obligations.NoOpLiteralRowAnswers : Prop :=
  ∀ s : State, exec .nopLiteral s =
    .next (s.afterOk ⟨s.params.nopMnemonic, .nop,
      ⟨unusedOp, unusedOp, unusedOp, unusedOp, unusedOp, unusedOp⟩⟩ none)

/-- R81, R84, R85, R86, R89, R108, R115: completion and frame of rows 0, 2, 5, 6, 7 and 10 (LDST's tags: D10). -/
def Obligations.AttestedAndModeBitRowsAnswer : Prop :=
  (∀ (app : Applicability) (mnemonic : String) (cls : InstrClass) (b1 b2 b3 : Byte) (s : State),
    exec (.attested_14 app mnemonic cls b1 b2 b3) s = .next (s.afterOk ⟨mnemonic, cls,
      ⟨regOp b1, regOp b2, regOrImmOp (selectedBit s.params.layout ⟨0x14, b1, b2, b3⟩) b3, unusedOp, unusedOp, unusedOp⟩⟩ none)) ∧
  ∀ (e : EntryHead) (b1 b2 b3 : Byte) (s : State),
    exec (.anyRRM e b1 b2 b3) s = .next (s.afterOk ⟨e.mnemonic, e.cls,
      ⟨regOp b1, regOp b2, regOrImmOp (selectedBit s.params.layout ⟨e.opcode, b1, b2, b3⟩) b3, unusedOp, unusedOp, unusedOp⟩⟩ none) ∧
    exec (.anyRDISP e b1 b2 b3) s = .next (s.afterOk ⟨e.mnemonic, e.cls,
      ⟨regOp b2, ⟨if (selectedBit s.params.layout ⟨e.opcode, b1, b2, b3⟩) then .immediate else .jumpDisplacement, sext18 b1 b3⟩, unusedOp, unusedOp, unusedOp, unusedOp⟩⟩ (if (selectedBit s.params.layout ⟨e.opcode, b1, b2, b3⟩) then none else some (s.currentAddress + sext18 b1 b3))) ∧
    exec (.anyDISP e b1 b2 b3) s = .next (s.afterOk ⟨e.mnemonic, e.cls,
      ⟨⟨if (selectedBit s.params.layout ⟨e.opcode, b1, b2, b3⟩) then .jumpDisplacement else .immediate, sext18 b1 b3⟩, unusedOp, unusedOp, unusedOp, unusedOp, unusedOp⟩⟩ (if (selectedBit s.params.layout ⟨e.opcode, b1, b2, b3⟩) then some (s.currentAddress + sext18 b1 b3) else none)) ∧
    exec (.anyLDST e b1 b2 b3) s = .next (s.afterOk ⟨e.mnemonic, e.cls,
      ⟨immOp (b1.extractLsb' 7 1), immOp (b1.extractLsb' 0 7), regOp b2, regOrImmOp (selectedBit s.params.layout ⟨e.opcode, b1, b2, b3⟩) b3, unusedOp, unusedOp⟩⟩ none) ∧
    exec (.anyCLZ e b1 b2 b3) s = .next (s.afterOk ⟨e.mnemonic, e.cls,
      ⟨regOp b1, regOrImmOp (selectedBit s.params.layout ⟨e.opcode, b1, b2, b3⟩) b3, unusedOp, unusedOp, unusedOp, unusedOp⟩⟩ none)

/-- R82, R83, R87, R88, R90 to R99, R115: completion and frame of rows 3, 4, 8, 9 and 11 to 20. -/
def Obligations.OtherKindRowsAnswer : Prop :=
  ∀ (e : EntryHead) (b1 b2 b3 : Byte) (s : State),
    exec (.anyRRR e b1 b2 b3) s = .next (s.afterOk ⟨e.mnemonic, e.cls,
      ⟨regOp b1, regOp b2, regOp b3, unusedOp, unusedOp, unusedOp⟩⟩ none) ∧
    exec (.anyRI16 e b1 b2 b3) s = .next (s.afterOk ⟨e.mnemonic, e.cls,
      ⟨regOp b2, immOp (b1 ++ b3), unusedOp, unusedOp, unusedOp, unusedOp⟩⟩ none) ∧
    exec (.anyICALL e b1 b2 b3) s = .next (s.afterOk ⟨e.mnemonic, e.cls,
      ⟨regOp b2, regOp b3, unusedOp, unusedOp, unusedOp, unusedOp⟩⟩ none) ∧
    exec (.anyRRI2 e b1 b2 b3) s = .next (s.afterOk ⟨e.mnemonic, e.cls,
      ⟨regOp b1, regOp b2, immOp (b3 &&& 3), unusedOp, unusedOp, unusedOp⟩⟩ none) ∧
    exec (.anyCVT6 e b1 b2 b3) s = .next (s.afterOk ⟨e.mnemonic, e.cls,
      ⟨regOp b1, regOp b2, immOp (b3.extractLsb' 7 1), immOp (b3.extractLsb' 4 3), immOp (b3.extractLsb' 2 2), immOp (b3.extractLsb' 0 2)⟩⟩ none) ∧
    exec (.anyRCRA e b1 b2 b3) s = .next (s.afterOk ⟨e.mnemonic, e.cls,
      ⟨regOp b1, regOp b2, unusedOp, unusedOp, unusedOp, unusedOp⟩⟩ none) ∧
    exec (.anyMAC e b1 b2 b3) s = .next (s.afterOk ⟨e.mnemonic, e.cls,
      ⟨immOp (b1.extractLsb' 2 4), immOp (b1.extractLsb' 0 2), regOp b1, regOp b2, unusedOp, unusedOp⟩⟩ none) ∧
    exec (.anyR1R3 e b1 b2 b3) s = .next (s.afterOk ⟨e.mnemonic, e.cls,
      ⟨regOp b1, regOp b3, unusedOp, unusedOp, unusedOp, unusedOp⟩⟩ none) ∧
    exec (.anyRB e b1 b2 b3) s = .next (s.afterOk ⟨e.mnemonic, e.cls,
      ⟨regOp b3, unusedOp, unusedOp, unusedOp, unusedOp, unusedOp⟩⟩ none) ∧
    exec (.anyRC_I2I2 e b1 b2 b3) s = .next (s.afterOk ⟨e.mnemonic, e.cls,
      ⟨regOp b1, immOp (b3.extractLsb' s.params.layout.narrowI2.first 2), immOp (b3.extractLsb' s.params.layout.narrowI2.second 2), unusedOp, unusedOp, unusedOp⟩⟩ none) ∧
    exec (.anyRA_I2I2 e b1 b2 b3) s = .next (s.afterOk ⟨e.mnemonic, e.cls,
      ⟨regOp b2, immOp (b3.extractLsb' s.params.layout.narrowI2.first 2), immOp (b3.extractLsb' s.params.layout.narrowI2.second 2), unusedOp, unusedOp, unusedOp⟩⟩ none) ∧
    exec (.anyMFSR e b1 b2 b3) s = .next (s.afterOk ⟨e.mnemonic, e.cls,
      ⟨regOp b1, regOp b2, unusedOp, unusedOp, unusedOp, unusedOp⟩⟩ none) ∧
    exec (.anyMTSR e b1 b2 b3) s = .next (s.afterOk ⟨e.mnemonic, e.cls,
      ⟨regOp b2, regOp b3, unusedOp, unusedOp, unusedOp, unusedOp⟩⟩ none) ∧
    exec (.anyNONE e b1 b2 b3) s = .next (s.afterOk ⟨e.mnemonic, e.cls,
      ⟨unusedOp, unusedOp, unusedOp, unusedOp, unusedOp, unusedOp⟩⟩ none)

/-- Completion and frame of the rows of constants and moves.
The rows are those of the reference Catalog, which the model took for reset (notes/assumptions/1.md). -/
def Obligations.ConstantAndMoveRowsAnswer : Prop :=
  ∀ (b1 b2 b3 : Byte) (s : State),
    (∀ r ∈ [(Instr.constn_01 b1 b2 b3, "constn", InstrClass.move),
      (Instr.consth_02 b1 b2 b3, "consth", InstrClass.move),
      (Instr.const_03 b1 b2 b3, "const", InstrClass.move),
      (Instr.mtsrim_04 b1 b2 b3, "mtsrim", InstrClass.move),
      (Instr.consthz_05 b1 b2 b3, "consthz", InstrClass.move)],
      exec r.1 s = .next (s.afterOk ⟨r.2.1, r.2.2,
        ⟨regOp b2, immOp (b1 ++ b3), unusedOp, unusedOp, unusedOp, unusedOp⟩⟩ none)) ∧
    (∀ r ∈ [(Instr.mttlb_be b1 b2 b3, "mttlb", InstrClass.move)],
      exec r.1 s = .next (s.afterOk ⟨r.2.1, r.2.2,
        ⟨regOp b2, regOp b3, unusedOp, unusedOp, unusedOp, unusedOp⟩⟩ none)) ∧
    (∀ r ∈ [(Instr.mftlb_b6 b1 b2 b3, "mftlb", InstrClass.move)],
      exec r.1 s = .next (s.afterOk ⟨r.2.1, r.2.2,
        ⟨regOp b1, regOp b2, unusedOp, unusedOp, unusedOp, unusedOp⟩⟩ none)) ∧
    (∀ r ∈ [(Instr.mfacc_e9 b1 b2 b3, "mfacc", InstrClass.move)],
      exec r.1 s = .next (s.afterOk ⟨r.2.1, r.2.2,
        ⟨regOp b1, immOp (b3.extractLsb' s.params.layout.narrowI2.first 2), immOp (b3.extractLsb' s.params.layout.narrowI2.second 2), unusedOp, unusedOp, unusedOp⟩⟩ none)) ∧
    (∀ r ∈ [(Instr.mtacc_e8 b1 b2 b3, "mtacc", InstrClass.move)],
      exec r.1 s = .next (s.afterOk ⟨r.2.1, r.2.2,
        ⟨regOp b2, immOp (b3.extractLsb' s.params.layout.narrowI2.first 2), immOp (b3.extractLsb' s.params.layout.narrowI2.second 2), unusedOp, unusedOp, unusedOp⟩⟩ none)) ∧
    (∀ r ∈ [(Instr.mfsr_c6 b1 b2 b3, "mfsr", InstrClass.move)],
      exec r.1 s = .next (s.afterOk ⟨r.2.1, r.2.2,
        ⟨regOp b1, regOp b2, unusedOp, unusedOp, unusedOp, unusedOp⟩⟩ none)) ∧
    (∀ r ∈ [(Instr.mtsr_ce b1 b2 b3, "mtsr", InstrClass.move)],
      exec r.1 s = .next (s.afterOk ⟨r.2.1, r.2.2,
        ⟨regOp b2, regOp b3, unusedOp, unusedOp, unusedOp, unusedOp⟩⟩ none))

/-- Completion and frame of the load and store rows: they only extract fields (R86).
The rows are those of the reference Catalog, which the model took for reset (notes/assumptions/1.md). -/
def Obligations.LoadStoreRowsAnswer : Prop :=
  ∀ (b1 b2 b3 : Byte) (s : State),
    (∀ r ∈ [(Instr.loadl_06 b1 b2 b3, "loadl", InstrClass.load),
      (Instr.loadl_07 b1 b2 b3, "loadl", InstrClass.load),
      (Instr.storel_0e b1 b2 b3, "storel", InstrClass.store),
      (Instr.storel_0f b1 b2 b3, "storel", InstrClass.store),
      (Instr.load_16 b1 b2 b3, "load", InstrClass.load),
      (Instr.load_17 b1 b2 b3, "load", InstrClass.load),
      (Instr.store_1e b1 b2 b3, "store", InstrClass.store),
      (Instr.store_1f b1 b2 b3, "store", InstrClass.store),
      (Instr.loadset_26 b1 b2 b3, "loadset", InstrClass.load),
      (Instr.loadset_27 b1 b2 b3, "loadset", InstrClass.load),
      (Instr.loadm_36 b1 b2 b3, "loadm", InstrClass.load),
      (Instr.loadm_37 b1 b2 b3, "loadm", InstrClass.load),
      (Instr.storem_3e b1 b2 b3, "storem", InstrClass.store),
      (Instr.storem_3f b1 b2 b3, "storem", InstrClass.store)],
      exec r.1 s = .next (s.afterOk ⟨r.2.1, r.2.2,
        ⟨immOp (b1.extractLsb' 7 1), immOp (b1.extractLsb' 0 7), regOp b2, regOrImmOp (selectedBit s.params.layout (encode s.params r.1)) b3, unusedOp, unusedOp⟩⟩ none))

/-- Completion and frame of the addition and subtraction rows.
The rows are those of the reference Catalog, which the model took for reset (notes/assumptions/1.md). -/
def Obligations.AddSubtractRowsAnswer : Prop :=
  ∀ (b1 b2 b3 : Byte) (s : State),
    (∀ r ∈ [(Instr.adds_10 b1 b2 b3, "adds", InstrClass.arithAdd),
      (Instr.adds_11 b1 b2 b3, "adds", InstrClass.arithAdd),
      (Instr.addu_12 b1 b2 b3, "addu", InstrClass.arithAdd),
      (Instr.addu_13 b1 b2 b3, "addu", InstrClass.arithAdd),
      (Instr.add_14 b1 b2 b3, "add", InstrClass.arithAdd),
      (Instr.add_15 b1 b2 b3, "add", InstrClass.arithAdd),
      (Instr.addcs_18 b1 b2 b3, "addcs", InstrClass.arithAdd),
      (Instr.addcs_19 b1 b2 b3, "addcs", InstrClass.arithAdd),
      (Instr.addcu_1a b1 b2 b3, "addcu", InstrClass.arithAdd),
      (Instr.addcu_1b b1 b2 b3, "addcu", InstrClass.arithAdd),
      (Instr.addc_1c b1 b2 b3, "addc", InstrClass.arithAdd),
      (Instr.addc_1d b1 b2 b3, "addc", InstrClass.arithAdd),
      (Instr.subs_20 b1 b2 b3, "subs", InstrClass.arithSub),
      (Instr.subs_21 b1 b2 b3, "subs", InstrClass.arithSub),
      (Instr.subu_22 b1 b2 b3, "subu", InstrClass.arithSub),
      (Instr.subu_23 b1 b2 b3, "subu", InstrClass.arithSub),
      (Instr.sub_24 b1 b2 b3, "sub", InstrClass.arithSub),
      (Instr.sub_25 b1 b2 b3, "sub", InstrClass.arithSub),
      (Instr.subcs_28 b1 b2 b3, "subcs", InstrClass.arithSub),
      (Instr.subcs_29 b1 b2 b3, "subcs", InstrClass.arithSub),
      (Instr.subcu_2a b1 b2 b3, "subcu", InstrClass.arithSub),
      (Instr.subcu_2b b1 b2 b3, "subcu", InstrClass.arithSub),
      (Instr.subc_2c b1 b2 b3, "subc", InstrClass.arithSub),
      (Instr.subc_2d b1 b2 b3, "subc", InstrClass.arithSub),
      (Instr.subrs_30 b1 b2 b3, "subrs", InstrClass.arithSub),
      (Instr.subrs_31 b1 b2 b3, "subrs", InstrClass.arithSub),
      (Instr.subru_32 b1 b2 b3, "subru", InstrClass.arithSub),
      (Instr.subru_33 b1 b2 b3, "subru", InstrClass.arithSub),
      (Instr.subr_34 b1 b2 b3, "subr", InstrClass.arithSub),
      (Instr.subr_35 b1 b2 b3, "subr", InstrClass.arithSub),
      (Instr.subrcs_38 b1 b2 b3, "subrcs", InstrClass.arithSub),
      (Instr.subrcs_39 b1 b2 b3, "subrcs", InstrClass.arithSub),
      (Instr.subrcu_3a b1 b2 b3, "subrcu", InstrClass.arithSub),
      (Instr.subrcu_3b b1 b2 b3, "subrcu", InstrClass.arithSub),
      (Instr.subrc_3c b1 b2 b3, "subrc", InstrClass.arithSub),
      (Instr.subrc_3d b1 b2 b3, "subrc", InstrClass.arithSub)],
      exec r.1 s = .next (s.afterOk ⟨r.2.1, r.2.2,
        ⟨regOp b1, regOp b2, regOrImmOp (selectedBit s.params.layout (encode s.params r.1)) b3, unusedOp, unusedOp, unusedOp⟩⟩ none))

/-- Completion and frame of the multiplication and division rows.
The rows are those of the reference Catalog, which the model took for reset (notes/assumptions/1.md). -/
def Obligations.MultiplyDivideRowsAnswer : Prop :=
  ∀ (b1 b2 b3 : Byte) (s : State),
    (∀ r ∈ [(Instr.mul_64 b1 b2 b3, "mul", InstrClass.arithMul),
      (Instr.mul_65 b1 b2 b3, "mul", InstrClass.arithMul),
      (Instr.mull_66 b1 b2 b3, "mull", InstrClass.arithMul),
      (Instr.mull_67 b1 b2 b3, "mull", InstrClass.arithMul),
      (Instr.div0_68 b1 b2 b3, "div0", InstrClass.arithDiv),
      (Instr.div0_69 b1 b2 b3, "div0", InstrClass.arithDiv),
      (Instr.div_6a b1 b2 b3, "div", InstrClass.arithDiv),
      (Instr.div_6b b1 b2 b3, "div", InstrClass.arithDiv),
      (Instr.divl_6c b1 b2 b3, "divl", InstrClass.arithDiv),
      (Instr.divl_6d b1 b2 b3, "divl", InstrClass.arithDiv),
      (Instr.divrem_6e b1 b2 b3, "divrem", InstrClass.arithDiv),
      (Instr.divrem_6f b1 b2 b3, "divrem", InstrClass.arithDiv),
      (Instr.mulu_74 b1 b2 b3, "mulu", InstrClass.arithMul),
      (Instr.mulu_75 b1 b2 b3, "mulu", InstrClass.arithMul)],
      exec r.1 s = .next (s.afterOk ⟨r.2.1, r.2.2,
        ⟨regOp b1, regOp b2, regOrImmOp (selectedBit s.params.layout (encode s.params r.1)) b3, unusedOp, unusedOp, unusedOp⟩⟩ none)) ∧
    (∀ r ∈ [(Instr.multm_de b1 b2 b3, "multm", InstrClass.arithMul),
      (Instr.multmu_df b1 b2 b3, "multmu", InstrClass.arithMul),
      (Instr.multiply_e0 b1 b2 b3, "multiply", InstrClass.arithMul),
      (Instr.divide_e1 b1 b2 b3, "divide", InstrClass.arithDiv),
      (Instr.multiplu_e2 b1 b2 b3, "multiplu", InstrClass.arithMul),
      (Instr.dividu_e3 b1 b2 b3, "dividu", InstrClass.arithDiv)],
      exec r.1 s = .next (s.afterOk ⟨r.2.1, r.2.2,
        ⟨regOp b1, regOp b2, regOp b3, unusedOp, unusedOp, unusedOp⟩⟩ none))

/-- Completion and frame of the compare and assert rows.
The rows are those of the reference Catalog, which the model took for reset (notes/assumptions/1.md). -/
def Obligations.CompareAndAssertRowsAnswer : Prop :=
  ∀ (b1 b2 b3 : Byte) (s : State),
    (∀ r ∈ [(Instr.cpbyte_2e b1 b2 b3, "cpbyte", InstrClass.compare),
      (Instr.cpbyte_2f b1 b2 b3, "cpbyte", InstrClass.compare),
      (Instr.cplt_40 b1 b2 b3, "cplt", InstrClass.compare),
      (Instr.cplt_41 b1 b2 b3, "cplt", InstrClass.compare),
      (Instr.cpltu_42 b1 b2 b3, "cpltu", InstrClass.compare),
      (Instr.cpltu_43 b1 b2 b3, "cpltu", InstrClass.compare),
      (Instr.cple_44 b1 b2 b3, "cple", InstrClass.compare),
      (Instr.cple_45 b1 b2 b3, "cple", InstrClass.compare),
      (Instr.cpleu_46 b1 b2 b3, "cpleu", InstrClass.compare),
      (Instr.cpleu_47 b1 b2 b3, "cpleu", InstrClass.compare),
      (Instr.cpgt_48 b1 b2 b3, "cpgt", InstrClass.compare),
      (Instr.cpgt_49 b1 b2 b3, "cpgt", InstrClass.compare),
      (Instr.cpgtu_4a b1 b2 b3, "cpgtu", InstrClass.compare),
      (Instr.cpgtu_4b b1 b2 b3, "cpgtu", InstrClass.compare),
      (Instr.cpge_4c b1 b2 b3, "cpge", InstrClass.compare),
      (Instr.cpge_4d b1 b2 b3, "cpge", InstrClass.compare),
      (Instr.cpgeu_4e b1 b2 b3, "cpgeu", InstrClass.compare),
      (Instr.cpgeu_4f b1 b2 b3, "cpgeu", InstrClass.compare),
      (Instr.aslt_50 b1 b2 b3, "aslt", InstrClass.compare),
      (Instr.aslt_51 b1 b2 b3, "aslt", InstrClass.compare),
      (Instr.asltu_52 b1 b2 b3, "asltu", InstrClass.compare),
      (Instr.asltu_53 b1 b2 b3, "asltu", InstrClass.compare),
      (Instr.asle_54 b1 b2 b3, "asle", InstrClass.compare),
      (Instr.asle_55 b1 b2 b3, "asle", InstrClass.compare),
      (Instr.asleu_56 b1 b2 b3, "asleu", InstrClass.compare),
      (Instr.asleu_57 b1 b2 b3, "asleu", InstrClass.compare),
      (Instr.asgt_58 b1 b2 b3, "asgt", InstrClass.compare),
      (Instr.asgt_59 b1 b2 b3, "asgt", InstrClass.compare),
      (Instr.asgtu_5a b1 b2 b3, "asgtu", InstrClass.compare),
      (Instr.asgtu_5b b1 b2 b3, "asgtu", InstrClass.compare),
      (Instr.asge_5c b1 b2 b3, "asge", InstrClass.compare),
      (Instr.asge_5d b1 b2 b3, "asge", InstrClass.compare),
      (Instr.asgeu_5e b1 b2 b3, "asgeu", InstrClass.compare),
      (Instr.asgeu_5f b1 b2 b3, "asgeu", InstrClass.compare),
      (Instr.cpeq_60 b1 b2 b3, "cpeq", InstrClass.compare),
      (Instr.cpeq_61 b1 b2 b3, "cpeq", InstrClass.compare),
      (Instr.cpneq_62 b1 b2 b3, "cpneq", InstrClass.compare),
      (Instr.cpneq_63 b1 b2 b3, "cpneq", InstrClass.compare),
      (Instr.aseq_70 b1 b2 b3, "aseq", InstrClass.compare),
      (Instr.aseq_71 b1 b2 b3, "aseq", InstrClass.compare),
      (Instr.asneq_72 b1 b2 b3, "asneq", InstrClass.compare),
      (Instr.asneq_73 b1 b2 b3, "asneq", InstrClass.compare)],
      exec r.1 s = .next (s.afterOk ⟨r.2.1, r.2.2,
        ⟨regOp b1, regOp b2, regOrImmOp (selectedBit s.params.layout (encode s.params r.1)) b3, unusedOp, unusedOp, unusedOp⟩⟩ none))

/-- Completion and frame of the logic, shift and extract rows.
The rows are those of the reference Catalog, which the model took for reset (notes/assumptions/1.md). -/
def Obligations.LogicAndShiftRowsAnswer : Prop :=
  ∀ (b1 b2 b3 : Byte) (s : State),
    (∀ r ∈ [(Instr.exbyte_0a b1 b2 b3, "exbyte", InstrClass.unclassified),
      (Instr.exbyte_0b b1 b2 b3, "exbyte", InstrClass.unclassified),
      (Instr.inbyte_0c b1 b2 b3, "inbyte", InstrClass.unclassified),
      (Instr.inbyte_0d b1 b2 b3, "inbyte", InstrClass.unclassified),
      (Instr.inhw_78 b1 b2 b3, "inhw", InstrClass.unclassified),
      (Instr.inhw_79 b1 b2 b3, "inhw", InstrClass.unclassified),
      (Instr.extract_7a b1 b2 b3, "extract", InstrClass.unclassified),
      (Instr.extract_7b b1 b2 b3, "extract", InstrClass.unclassified),
      (Instr.exhw_7c b1 b2 b3, "exhw", InstrClass.unclassified),
      (Instr.exhw_7d b1 b2 b3, "exhw", InstrClass.unclassified),
      (Instr.sll_80 b1 b2 b3, "sll", InstrClass.unclassified),
      (Instr.sll_81 b1 b2 b3, "sll", InstrClass.unclassified),
      (Instr.srl_82 b1 b2 b3, "srl", InstrClass.unclassified),
      (Instr.srl_83 b1 b2 b3, "srl", InstrClass.unclassified),
      (Instr.sra_86 b1 b2 b3, "sra", InstrClass.unclassified),
      (Instr.sra_87 b1 b2 b3, "sra", InstrClass.unclassified),
      (Instr.and_90 b1 b2 b3, "and", InstrClass.bitAnd),
      (Instr.and_91 b1 b2 b3, "and", InstrClass.bitAnd),
      (Instr.or_92 b1 b2 b3, "or", InstrClass.bitOr),
      (Instr.or_93 b1 b2 b3, "or", InstrClass.bitOr),
      (Instr.xor_94 b1 b2 b3, "xor", InstrClass.bitXor),
      (Instr.xor_95 b1 b2 b3, "xor", InstrClass.bitXor),
      (Instr.xnor_96 b1 b2 b3, "xnor", InstrClass.bitXor),
      (Instr.xnor_97 b1 b2 b3, "xnor", InstrClass.bitXor),
      (Instr.nor_98 b1 b2 b3, "nor", InstrClass.bitNor),
      (Instr.nor_99 b1 b2 b3, "nor", InstrClass.bitNor),
      (Instr.nand_9a b1 b2 b3, "nand", InstrClass.bitAnd),
      (Instr.nand_9b b1 b2 b3, "nand", InstrClass.bitAnd),
      (Instr.andn_9c b1 b2 b3, "andn", InstrClass.bitAnd),
      (Instr.andn_9d b1 b2 b3, "andn", InstrClass.bitAnd),
      (Instr.orn_aa b1 b2 b3, "orn", InstrClass.bitOr),
      (Instr.orn_ab b1 b2 b3, "orn", InstrClass.bitOr)],
      exec r.1 s = .next (s.afterOk ⟨r.2.1, r.2.2,
        ⟨regOp b1, regOp b2, regOrImmOp (selectedBit s.params.layout (encode s.params r.1)) b3, unusedOp, unusedOp, unusedOp⟩⟩ none)) ∧
    (∀ r ∈ [(Instr.clz_08 b1 b2 b3, "clz", InstrClass.unclassified),
      (Instr.clz_09 b1 b2 b3, "clz", InstrClass.unclassified)],
      exec r.1 s = .next (s.afterOk ⟨r.2.1, r.2.2,
        ⟨regOp b1, regOrImmOp (selectedBit s.params.layout (encode s.params r.1)) b3, unusedOp, unusedOp, unusedOp, unusedOp⟩⟩ none)) ∧
    (∀ r ∈ [(Instr.exhws_7e b1 b2 b3, "exhws", InstrClass.unclassified)],
      exec r.1 s = .next (s.afterOk ⟨r.2.1, r.2.2,
        ⟨regOp b1, regOp b2, unusedOp, unusedOp, unusedOp, unusedOp⟩⟩ none))

/-- Completion and frame of the jump and call rows: the block transfers nothing (R128).
The rows are those of the reference Catalog, which the model took for reset (notes/assumptions/1.md). -/
def Obligations.ControlTransferRowsAnswer : Prop :=
  ∀ (b1 b2 b3 : Byte) (s : State),
    (∀ r ∈ [(Instr.jmpf_a4 b1 b2 b3, "jmpf", InstrClass.condJump),
      (Instr.jmpf_a5 b1 b2 b3, "jmpf", InstrClass.condJump),
      (Instr.call_a8 b1 b2 b3, "call", InstrClass.call),
      (Instr.call_a9 b1 b2 b3, "call", InstrClass.call),
      (Instr.jmpt_ac b1 b2 b3, "jmpt", InstrClass.condJump),
      (Instr.jmpt_ad b1 b2 b3, "jmpt", InstrClass.condJump),
      (Instr.jmpfdec_b4 b1 b2 b3, "jmpfdec", InstrClass.condJump),
      (Instr.jmpfdec_b5 b1 b2 b3, "jmpfdec", InstrClass.condJump)],
      exec r.1 s = .next (s.afterOk ⟨r.2.1, r.2.2,
        ⟨regOp b2, ⟨if (selectedBit s.params.layout (encode s.params r.1)) then .immediate else .jumpDisplacement, sext18 b1 b3⟩, unusedOp, unusedOp, unusedOp, unusedOp⟩⟩ (if (selectedBit s.params.layout (encode s.params r.1)) then none else some (s.currentAddress + sext18 b1 b3)))) ∧
    (∀ r ∈ [(Instr.jmp_a0 b1 b2 b3, "jmp", InstrClass.jump),
      (Instr.jmp_a1 b1 b2 b3, "jmp", InstrClass.jump)],
      exec r.1 s = .next (s.afterOk ⟨r.2.1, r.2.2,
        ⟨⟨if (selectedBit s.params.layout (encode s.params r.1)) then .jumpDisplacement else .immediate, sext18 b1 b3⟩, unusedOp, unusedOp, unusedOp, unusedOp, unusedOp⟩⟩ (if (selectedBit s.params.layout (encode s.params r.1)) then some (s.currentAddress + sext18 b1 b3) else none))) ∧
    (∀ r ∈ [(Instr.jmpfi_c4 b1 b2 b3, "jmpfi", InstrClass.condJump),
      (Instr.calli_c8 b1 b2 b3, "calli", InstrClass.indirectCall),
      (Instr.jmpti_cc b1 b2 b3, "jmpti", InstrClass.condJump)],
      exec r.1 s = .next (s.afterOk ⟨r.2.1, r.2.2,
        ⟨regOp b2, regOp b3, unusedOp, unusedOp, unusedOp, unusedOp⟩⟩ none)) ∧
    (∀ r ∈ [(Instr.jmpi_c0 b1 b2 b3, "jmpi", InstrClass.indirectJump)],
      exec r.1 s = .next (s.afterOk ⟨r.2.1, r.2.2,
        ⟨regOp b3, unusedOp, unusedOp, unusedOp, unusedOp, unusedOp⟩⟩ none))

/-- Completion and frame of the system rows: no privilege check is made (R167).
The rows are those of the reference Catalog, which the model took for reset (notes/assumptions/1.md). -/
def Obligations.SystemRowsAnswer : Prop :=
  ∀ (b1 b2 b3 : Byte) (s : State),
    (∀ r ∈ [(Instr.setip_9e b1 b2 b3, "setip", InstrClass.unclassified),
      (Instr.emulate_d7 b1 b2 b3, "emulate", InstrClass.unclassified)],
      exec r.1 s = .next (s.afterOk ⟨r.2.1, r.2.2,
        ⟨regOp b1, regOp b2, regOp b3, unusedOp, unusedOp, unusedOp⟩⟩ none)) ∧
    (∀ r ∈ [(Instr.iret_88 b1 b2 b3, "iret", InstrClass.ret),
      (Instr.halt_89 b1 b2 b3, "halt", InstrClass.unclassified),
      (Instr.iretinv_8c b1 b2 b3, "iretinv", InstrClass.ret),
      (Instr.inv_9f b1 b2 b3, "inv", InstrClass.unclassified)],
      exec r.1 s = .next (s.afterOk ⟨r.2.1, r.2.2,
        ⟨unusedOp, unusedOp, unusedOp, unusedOp, unusedOp, unusedOp⟩⟩ none))

/-- Completion and frame of the floating-point rows.
The rows are those of the reference Catalog, which the model took for reset (notes/assumptions/1.md). -/
def Obligations.FloatingPointRowsAnswer : Prop :=
  ∀ (b1 b2 b3 : Byte) (s : State),
    (∀ r ∈ [(Instr.feq_ea b1 b2 b3, "feq", InstrClass.compare),
      (Instr.deq_eb b1 b2 b3, "deq", InstrClass.compare),
      (Instr.fgt_ec b1 b2 b3, "fgt", InstrClass.compare),
      (Instr.dgt_ed b1 b2 b3, "dgt", InstrClass.compare),
      (Instr.fge_ee b1 b2 b3, "fge", InstrClass.compare),
      (Instr.dge_ef b1 b2 b3, "dge", InstrClass.compare),
      (Instr.fadd_f0 b1 b2 b3, "fadd", InstrClass.arithAdd),
      (Instr.dadd_f1 b1 b2 b3, "dadd", InstrClass.arithAdd),
      (Instr.fsub_f2 b1 b2 b3, "fsub", InstrClass.arithSub),
      (Instr.dsub_f3 b1 b2 b3, "dsub", InstrClass.arithSub),
      (Instr.fmul_f4 b1 b2 b3, "fmul", InstrClass.arithMul),
      (Instr.dmul_f5 b1 b2 b3, "dmul", InstrClass.arithMul),
      (Instr.fdiv_f6 b1 b2 b3, "fdiv", InstrClass.arithDiv),
      (Instr.ddiv_f7 b1 b2 b3, "ddiv", InstrClass.arithDiv),
      (Instr.fdmul_f9 b1 b2 b3, "fdmul", InstrClass.arithMul)],
      exec r.1 s = .next (s.afterOk ⟨r.2.1, r.2.2,
        ⟨regOp b1, regOp b2, regOp b3, unusedOp, unusedOp, unusedOp⟩⟩ none)) ∧
    (∀ r ∈ [(Instr.sqrt_e5 b1 b2 b3, "sqrt", InstrClass.unclassified),
      (Instr.class_e6 b1 b2 b3, "class", InstrClass.unclassified)],
      exec r.1 s = .next (s.afterOk ⟨r.2.1, r.2.2,
        ⟨regOp b1, regOp b2, immOp (b3 &&& 3), unusedOp, unusedOp, unusedOp⟩⟩ none)) ∧
    (∀ r ∈ [(Instr.convert_e4 b1 b2 b3, "convert", InstrClass.unclassified)],
      exec r.1 s = .next (s.afterOk ⟨r.2.1, r.2.2,
        ⟨regOp b1, regOp b2, immOp (b3.extractLsb' 7 1), immOp (b3.extractLsb' 4 3), immOp (b3.extractLsb' 2 2), immOp (b3.extractLsb' 0 2)⟩⟩ none)) ∧
    (∀ r ∈ [(Instr.fmac_d8 b1 b2 b3, "fmac", InstrClass.arithMul),
      (Instr.dmac_d9 b1 b2 b3, "dmac", InstrClass.arithMul),
      (Instr.fmsm_da b1 b2 b3, "fmsm", InstrClass.arithMul),
      (Instr.dmsm_db b1 b2 b3, "dmsm", InstrClass.arithMul)],
      exec r.1 s = .next (s.afterOk ⟨r.2.1, r.2.2,
        ⟨immOp (b1.extractLsb' 2 4), immOp (b1.extractLsb' 0 2), regOp b1, regOp b2, unusedOp, unusedOp⟩⟩ none))
end

