-- ==== Sys2Proof/Laws/Decode.lean ====
section
/-! SUPPORT. What the decoder's operations can do: the word view, the scan, and the row an entry is. -/

namespace Sys2Proof

/-- The word view loses nothing (R10, R35). -/
@[simp] theorem Bytes4.ofWord_toWord (b : Bytes4) : Bytes4.ofWord b.toWord = b := by
  obtain ⟨b0, b1, b2, b3⟩ := b
  simp only [Bytes4.ofWord, Bytes4.toWord, Bytes4.mk.injEq]
  refine ⟨?_, ?_, ?_, ?_⟩ <;>
  · apply BitVec.eq_of_getLsbD_eq
    intro i hi
    simp only [BitVec.getLsbD_extractLsb', BitVec.getLsbD_append]
    interval_cases i <;> simp

/-- What the scan answers: the first matching entry in declaration order, or that none matches. -/
theorem scan_eq_some_iff {compat : Applicability → Option String → Bool} {catalog : List CatalogEntry}
    {v : Option String} {opcode : Byte} {e : CatalogEntry} :
    scan compat catalog v opcode = some e ↔
      e.opcode = opcode ∧ compat e.app v = true ∧
      ∃ before after, catalog = before ++ e :: after ∧
        ∀ x ∈ before, ¬ (x.opcode = opcode ∧ compat x.app v = true) := by
  simp only [scan, List.find?_eq_some_iff_append, entryMatches, Bool.and_eq_true, beq_iff_eq,
    Bool.not_eq_true', Bool.and_eq_false_iff, beq_eq_false_iff_ne]
  constructor
  · rintro ⟨⟨h1, h2⟩, l, r, h3, h4⟩
    refine ⟨h1, h2, l, r, h3, fun x hx hm => ?_⟩
    rcases h4 x hx with h | h
    · exact h hm.1
    · rw [hm.2] at h; cases h
  · rintro ⟨h1, h2, l, r, h3, h4⟩
    refine ⟨⟨h1, h2⟩, l, r, h3, fun x hx => ?_⟩
    by_cases hx' : x.opcode = opcode
    · right
      cases hc : compat x.app v
      · rfl
      · exact absurd ⟨hx', hc⟩ (h4 x hx)
    · exact Or.inl hx'

/-- The scan reads the check at its own variant only. -/
theorem scan_congr {compat compat' : Applicability → Option String → Bool} {catalog : List CatalogEntry}
    {v : Option String} {opcode : Byte} (h : ∀ app, compat app v = compat' app v) :
    scan compat catalog v opcode = scan compat' catalog v opcode := by
  have : entryMatches compat v opcode = entryMatches compat' v opcode := by
    funext e; simp [entryMatches, h]
  rw [scan, this, scan]

/-- What the check of a family answers: what it lists for the variant, else its answer for the rest. -/
theorem FamilyCheck.admits_cases (c : FamilyCheck) (f : Family) (v : Option String) :
    (∃ answer, c.listed.lookup v = some answer ∧ c.admits f v = answer) ∨
    (c.listed.lookup v = none ∧ ∃ answer, c.otherwise = .always answer ∧ c.admits f v = answer) ∨
    (c.listed.lookup v = none ∧ ∃ index, c.otherwise = .unspecified index ∧
      c.admits f v = openCompat index f v) := by
  cases h : c.listed.lookup v with
  | some answer => exact Or.inl ⟨answer, rfl, by simp [FamilyCheck.admits, h]⟩
  | none =>
    cases h' : c.otherwise with
    | always answer => exact Or.inr (Or.inl ⟨rfl, answer, rfl, by simp [FamilyCheck.admits, h, h']⟩)
    | unspecified index => exact Or.inr (Or.inr ⟨rfl, index, rfl, by simp [FamilyCheck.admits, h, h']⟩)

/-- The scan answers nothing exactly when no entry matches (R116). -/
theorem scan_eq_none_iff {compat : Applicability → Option String → Bool} {catalog : List CatalogEntry}
    {v : Option String} {opcode : Byte} :
    scan compat catalog v opcode = none ↔
      ∀ e ∈ catalog, ¬ (e.opcode = opcode ∧ compat e.app v = true) := by
  simp [scan, entryMatches]

/-- What decoding four bytes can answer (R113, R114, R116). -/
theorem decodeWord_cases (p : Params) (v : Option String) (b : Bytes4) :
    (b = p.nopLiteral ∧ decodeWord p v b = .ok .nopLiteral) ∨
    (b ≠ p.nopLiteral ∧ ∃ e, scan p.compat.admits p.catalog v b.b0 = some e ∧
      decodeWord p v b = .ok (instrOfEntry e b.b1 b.b2 b.b3)) ∨
    (b ≠ p.nopLiteral ∧ scan p.compat.admits p.catalog v b.b0 = none ∧
      decodeWord p v b = .error .unknownOpcode) := by
  by_cases h : b = p.nopLiteral
  · exact Or.inl ⟨h, by simp [decodeWord, h]⟩
  · cases hs : scan p.compat.admits p.catalog v b.b0 with
    | none => exact Or.inr (Or.inr ⟨h, rfl, by simp [decodeWord, h, hs]⟩)
    | some e => exact Or.inr (Or.inl ⟨h, e, rfl, by simp [decodeWord, h, hs]⟩)

/-- Every row with a constructor of its own has an entry of the reference Catalog, whatever its bytes. -/
theorem namedRows_entry :
    ∀ r ∈ namedRows, ∀ b1 b2 b3, ∃ e ∈ Machine.referenceCatalog, (r.2 b1 b2 b3).entry = some e := by
  intro r hr b1 b2 b3
  have key : ∀ (i j : Instr), i.entry = j.entry →
      (∃ e ∈ Machine.referenceCatalog, j.entry = some e) →
      ∃ e ∈ Machine.referenceCatalog, i.entry = some e := by
    intro i j h hj; rwa [h]
  refine key _ (r.2 0 0 0) ?_ ?_
  · simp only [namedRows, namedRows0, namedRows1, namedRows2, namedRows3, namedRows4, namedRows5,
      namedRows6, namedRows7, List.mem_append, List.mem_cons, List.not_mem_nil, or_false] at hr
    rcases hr with ((((((h | h) | h) | h) | h) | h) | h) | h <;>
    · repeat' (first | (subst h; rfl) | (rcases h with h | h))
  · have hd : ∀ r ∈ namedRows, ∃ e ∈ Machine.referenceCatalog, (r.2 0 0 0).entry = some e := by
      decide +kernel
    exact hd r hr

/-- The instruction with a constructor of its own at an opcode byte has an entry of the reference Catalog. -/
theorem namedInstr_entry {opcode b1 b2 b3 : Byte} {i : Instr} (h : namedInstr opcode b1 b2 b3 = some i) :
    ∃ e ∈ Machine.referenceCatalog, i.entry = some e := by
  simp only [namedInstr, Option.map_eq_some_iff] at h
  obtain ⟨r, hr, rfl⟩ := h
  exact namedRows_entry r (List.mem_of_find?_eq_some hr) b1 b2 b3

/-- An entry that no constructor of its own names is row 0 or the row of its kind. -/
theorem instrOfEntry_other {e : CatalogEntry} (b1 b2 b3 : Byte) (h : e.isNamed = false) :
    instrOfEntry e b1 b2 b3 = instrOfEntry.otherRow e b1 b2 b3 := by
  unfold instrOfEntry
  split
  · rename_i i hi
    obtain ⟨e', he', hie⟩ := namedInstr_entry hi
    rw [if_neg]
    intro hc
    rw [hie, Option.some.injEq] at hc
    subst hc
    simp [CatalogEntry.isNamed, he'] at h
  · rfl

/-- Row 0 is what the decoder gives an unnamed entry of its opcode byte and kind (R108). -/
theorem instrOfEntry_attested (e : CatalogEntry) (b1 b2 b3 : Byte) (h : e.isNamed = false)
    (ha : e.isAttested = true) :
    instrOfEntry e b1 b2 b3 = .attested_14 e.app e.mnemonic e.cls b1 b2 b3 := by
  rw [instrOfEntry_other b1 b2 b3 h, instrOfEntry.otherRow, if_pos ha]

/-- The row of its kind is what the decoder gives an entry that no other row names. -/
theorem instrOfEntry_generic (e : CatalogEntry) (b1 b2 b3 : Byte) (h : e.isGeneric = true) :
    instrOfEntry e b1 b2 b3 = kindInstr e b1 b2 b3 := by
  simp only [CatalogEntry.isGeneric, Bool.and_eq_true, Bool.not_eq_true'] at h
  rw [instrOfEntry_other b1 b2 b3 h.1, instrOfEntry.otherRow, if_neg (by simp [h.2])]

end Sys2Proof
end

