-- ==== Sys2Proof/Laws/State.lean ====
section
/-! SUPPORT. One lemma per field of the state per update, so that no proof unfolds a record update. -/

namespace Sys2Proof.Machine

/-! ### driveConsumers -/

@[simp] theorem State.driveConsumers_params (s : State) (d : DecodedInstr) :
    (s.driveConsumers d).params = s.params := rfl

@[simp] theorem State.driveConsumers_request (s : State) (d : DecodedInstr) :
    (s.driveConsumers d).request = s.request := rfl

@[simp] theorem State.driveConsumers_bufPresent (s : State) (d : DecodedInstr) :
    (s.driveConsumers d).bufPresent = s.bufPresent := rfl

@[simp] theorem State.driveConsumers_len (s : State) (d : DecodedInstr) :
    (s.driveConsumers d).len = s.len := rfl

@[simp] theorem State.driveConsumers_bytes (s : State) (d : DecodedInstr) :
    (s.driveConsumers d).bytes = s.bytes := rfl

@[simp] theorem State.driveConsumers_cpuVariant (s : State) (d : DecodedInstr) :
    (s.driveConsumers d).cpuVariant = s.cpuVariant := rfl

@[simp] theorem State.driveConsumers_sinkPresent (s : State) (d : DecodedInstr) :
    (s.driveConsumers d).sinkPresent = s.sinkPresent := rfl

@[simp] theorem State.driveConsumers_currentAddress (s : State) (d : DecodedInstr) :
    (s.driveConsumers d).currentAddress = s.currentAddress := rfl

@[simp] theorem State.driveConsumers_bufferSizeHint (s : State) (d : DecodedInstr) :
    (s.driveConsumers d).bufferSizeHint = s.bufferSizeHint := rfl

@[simp] theorem State.driveConsumers_result (s : State) (d : DecodedInstr) :
    (s.driveConsumers d).result = s.result := rfl

@[simp] theorem State.driveConsumers_target (s : State) (d : DecodedInstr) :
    (s.driveConsumers d).target = .driven (resolveTarget s.currentAddress d) := rfl

@[simp] theorem State.driveConsumers_returnEquivalent (s : State) (d : DecodedInstr) :
    (s.driveConsumers d).returnEquivalent = .driven (isReturnEquivalent s.params.icallMnemonic d) := rfl

@[simp] theorem State.driveConsumers_text (s : State) (d : DecodedInstr) :
    (s.driveConsumers d).text = .driven (render s.bufferSizeHint s.currentAddress d) := rfl

/-! ### deliver -/

@[simp] theorem State.deliver_params (s : State) (d : DecodedInstr) :
    (s.deliver d).params = s.params := rfl

@[simp] theorem State.deliver_request (s : State) (d : DecodedInstr) :
    (s.deliver d).request = s.request := rfl

@[simp] theorem State.deliver_bufPresent (s : State) (d : DecodedInstr) :
    (s.deliver d).bufPresent = s.bufPresent := rfl

@[simp] theorem State.deliver_len (s : State) (d : DecodedInstr) :
    (s.deliver d).len = s.len := rfl

@[simp] theorem State.deliver_bytes (s : State) (d : DecodedInstr) :
    (s.deliver d).bytes = s.bytes := rfl

@[simp] theorem State.deliver_cpuVariant (s : State) (d : DecodedInstr) :
    (s.deliver d).cpuVariant = s.cpuVariant := rfl

@[simp] theorem State.deliver_sinkPresent (s : State) (d : DecodedInstr) :
    (s.deliver d).sinkPresent = s.sinkPresent := rfl

@[simp] theorem State.deliver_currentAddress (s : State) (d : DecodedInstr) :
    (s.deliver d).currentAddress = s.currentAddress := rfl

@[simp] theorem State.deliver_bufferSizeHint (s : State) (d : DecodedInstr) :
    (s.deliver d).bufferSizeHint = s.bufferSizeHint := rfl

@[simp] theorem State.deliver_result (s : State) (d : DecodedInstr) :
    (s.deliver d).result = .driven (.ok d) := rfl

@[simp] theorem State.deliver_target (s : State) (d : DecodedInstr) :
    (s.deliver d).target = .driven (resolveTarget s.currentAddress d) := rfl

@[simp] theorem State.deliver_returnEquivalent (s : State) (d : DecodedInstr) :
    (s.deliver d).returnEquivalent = .driven (isReturnEquivalent s.params.icallMnemonic d) := rfl

@[simp] theorem State.deliver_text (s : State) (d : DecodedInstr) :
    (s.deliver d).text = .driven (render s.bufferSizeHint s.currentAddress d) := rfl

/-! ### consume -/

@[simp] theorem State.consume_params (s : State) (d : DecodedInstr) :
    (s.consume d).params = s.params := rfl

@[simp] theorem State.consume_request (s : State) (d : DecodedInstr) :
    (s.consume d).request = s.request := rfl

@[simp] theorem State.consume_bufPresent (s : State) (d : DecodedInstr) :
    (s.consume d).bufPresent = s.bufPresent := rfl

@[simp] theorem State.consume_len (s : State) (d : DecodedInstr) :
    (s.consume d).len = s.len := rfl

@[simp] theorem State.consume_bytes (s : State) (d : DecodedInstr) :
    (s.consume d).bytes = s.bytes := rfl

@[simp] theorem State.consume_cpuVariant (s : State) (d : DecodedInstr) :
    (s.consume d).cpuVariant = s.cpuVariant := rfl

@[simp] theorem State.consume_sinkPresent (s : State) (d : DecodedInstr) :
    (s.consume d).sinkPresent = s.sinkPresent := rfl

@[simp] theorem State.consume_currentAddress (s : State) (d : DecodedInstr) :
    (s.consume d).currentAddress = s.currentAddress := rfl

@[simp] theorem State.consume_bufferSizeHint (s : State) (d : DecodedInstr) :
    (s.consume d).bufferSizeHint = s.bufferSizeHint := rfl

@[simp] theorem State.consume_result (s : State) (d : DecodedInstr) :
    (s.consume d).result = .idle := rfl

@[simp] theorem State.consume_target (s : State) (d : DecodedInstr) :
    (s.consume d).target = .driven (resolveTarget s.currentAddress d) := rfl

@[simp] theorem State.consume_returnEquivalent (s : State) (d : DecodedInstr) :
    (s.consume d).returnEquivalent = .driven (isReturnEquivalent s.params.icallMnemonic d) := rfl

@[simp] theorem State.consume_text (s : State) (d : DecodedInstr) :
    (s.consume d).text = .driven (render s.bufferSizeHint s.currentAddress d) := rfl

/-! ### raise -/

@[simp] theorem State.raise_params (s : State) (e : DecodeError) :
    (s.raise e).params = s.params := rfl

@[simp] theorem State.raise_request (s : State) (e : DecodeError) :
    (s.raise e).request = s.request := rfl

@[simp] theorem State.raise_bufPresent (s : State) (e : DecodeError) :
    (s.raise e).bufPresent = s.bufPresent := rfl

@[simp] theorem State.raise_len (s : State) (e : DecodeError) :
    (s.raise e).len = s.len := rfl

@[simp] theorem State.raise_bytes (s : State) (e : DecodeError) :
    (s.raise e).bytes = s.bytes := rfl

@[simp] theorem State.raise_cpuVariant (s : State) (e : DecodeError) :
    (s.raise e).cpuVariant = s.cpuVariant := rfl

@[simp] theorem State.raise_sinkPresent (s : State) (e : DecodeError) :
    (s.raise e).sinkPresent = s.sinkPresent := rfl

@[simp] theorem State.raise_currentAddress (s : State) (e : DecodeError) :
    (s.raise e).currentAddress = s.currentAddress := rfl

@[simp] theorem State.raise_bufferSizeHint (s : State) (e : DecodeError) :
    (s.raise e).bufferSizeHint = s.bufferSizeHint := rfl

@[simp] theorem State.raise_result (s : State) (e : DecodeError) :
    (s.raise e).result = .driven (.err e) := rfl

@[simp] theorem State.raise_target (s : State) (e : DecodeError) :
    (s.raise e).target = .idle := rfl

@[simp] theorem State.raise_returnEquivalent (s : State) (e : DecodeError) :
    (s.raise e).returnEquivalent = .idle := rfl

@[simp] theorem State.raise_text (s : State) (e : DecodeError) :
    (s.raise e).text = .idle := rfl

/-! ### presentWord -/

@[simp] theorem State.presentWord_params (s : State) (b : Bytes4) :
    (s.presentWord b).params = s.params := rfl

@[simp] theorem State.presentWord_request (s : State) (b : Bytes4) :
    (s.presentWord b).request = .decode := rfl

@[simp] theorem State.presentWord_bufPresent (s : State) (b : Bytes4) :
    (s.presentWord b).bufPresent = true := rfl

@[simp] theorem State.presentWord_len (s : State) (b : Bytes4) :
    (s.presentWord b).len = minBufferLen := rfl

@[simp] theorem State.presentWord_bytes (s : State) (b : Bytes4) :
    (s.presentWord b).bytes = b := rfl

@[simp] theorem State.presentWord_cpuVariant (s : State) (b : Bytes4) :
    (s.presentWord b).cpuVariant = if variantOk s.params.variantMinLen s.cpuVariant then s.cpuVariant else none := rfl

@[simp] theorem State.presentWord_sinkPresent (s : State) (b : Bytes4) :
    (s.presentWord b).sinkPresent = true := rfl

@[simp] theorem State.presentWord_currentAddress (s : State) (b : Bytes4) :
    (s.presentWord b).currentAddress = s.currentAddress := rfl

@[simp] theorem State.presentWord_bufferSizeHint (s : State) (b : Bytes4) :
    (s.presentWord b).bufferSizeHint = s.bufferSizeHint := rfl

@[simp] theorem State.presentWord_result (s : State) (b : Bytes4) :
    (s.presentWord b).result = s.result := rfl

@[simp] theorem State.presentWord_target (s : State) (b : Bytes4) :
    (s.presentWord b).target = s.target := rfl

@[simp] theorem State.presentWord_returnEquivalent (s : State) (b : Bytes4) :
    (s.presentWord b).returnEquivalent = s.returnEquivalent := rfl

@[simp] theorem State.presentWord_text (s : State) (b : Bytes4) :
    (s.presentWord b).text = s.text := rfl

/-! ### presentGroup -/

@[simp] theorem State.presentGroup_params (s : State) (b : Bytes4) :
    (s.presentGroup b).params = s.params := rfl

@[simp] theorem State.presentGroup_request (s : State) (b : Bytes4) :
    (s.presentGroup b).request = .decode := rfl

@[simp] theorem State.presentGroup_bufPresent (s : State) (b : Bytes4) :
    (s.presentGroup b).bufPresent = true := rfl

@[simp] theorem State.presentGroup_len (s : State) (b : Bytes4) :
    (s.presentGroup b).len = 4 := rfl

@[simp] theorem State.presentGroup_bytes (s : State) (b : Bytes4) :
    (s.presentGroup b).bytes = b := rfl

@[simp] theorem State.presentGroup_cpuVariant (s : State) (b : Bytes4) :
    (s.presentGroup b).cpuVariant = s.cpuVariant := rfl

@[simp] theorem State.presentGroup_sinkPresent (s : State) (b : Bytes4) :
    (s.presentGroup b).sinkPresent = true := rfl

@[simp] theorem State.presentGroup_currentAddress (s : State) (b : Bytes4) :
    (s.presentGroup b).currentAddress = s.currentAddress := rfl

@[simp] theorem State.presentGroup_bufferSizeHint (s : State) (b : Bytes4) :
    (s.presentGroup b).bufferSizeHint = s.bufferSizeHint := rfl

@[simp] theorem State.presentGroup_result (s : State) (b : Bytes4) :
    (s.presentGroup b).result = s.result := rfl

@[simp] theorem State.presentGroup_target (s : State) (b : Bytes4) :
    (s.presentGroup b).target = s.target := rfl

@[simp] theorem State.presentGroup_returnEquivalent (s : State) (b : Bytes4) :
    (s.presentGroup b).returnEquivalent = s.returnEquivalent := rfl

@[simp] theorem State.presentGroup_text (s : State) (b : Bytes4) :
    (s.presentGroup b).text = s.text := rfl

/-! ### nextAddress -/

@[simp] theorem State.nextAddress_params (s : State) :
    (s.nextAddress).params = s.params := rfl

@[simp] theorem State.nextAddress_request (s : State) :
    (s.nextAddress).request = s.request := rfl

@[simp] theorem State.nextAddress_bufPresent (s : State) :
    (s.nextAddress).bufPresent = s.bufPresent := rfl

@[simp] theorem State.nextAddress_len (s : State) :
    (s.nextAddress).len = s.len := rfl

@[simp] theorem State.nextAddress_bytes (s : State) :
    (s.nextAddress).bytes = s.bytes := rfl

@[simp] theorem State.nextAddress_cpuVariant (s : State) :
    (s.nextAddress).cpuVariant = s.cpuVariant := rfl

@[simp] theorem State.nextAddress_sinkPresent (s : State) :
    (s.nextAddress).sinkPresent = s.sinkPresent := rfl

@[simp] theorem State.nextAddress_currentAddress (s : State) :
    (s.nextAddress).currentAddress = s.currentAddress + 4 := rfl

@[simp] theorem State.nextAddress_bufferSizeHint (s : State) :
    (s.nextAddress).bufferSizeHint = s.bufferSizeHint := rfl

@[simp] theorem State.nextAddress_result (s : State) :
    (s.nextAddress).result = s.result := rfl

@[simp] theorem State.nextAddress_target (s : State) :
    (s.nextAddress).target = s.target := rfl

@[simp] theorem State.nextAddress_returnEquivalent (s : State) :
    (s.nextAddress).returnEquivalent = s.returnEquivalent := rfl

@[simp] theorem State.nextAddress_text (s : State) :
    (s.nextAddress).text = s.text := rfl

end Sys2Proof.Machine
end

