-- ==== Sys2Proof/Laws/Ops.lean ====
section
/-! SUPPORT. What each shared operation can do, said once: the tagger's slots, the meaning of a word,
the fetch, the step, the consumers. -/

namespace Sys2Proof.Machine

/-! ## The tagger -/

@[simp] theorem Slots.get_put_same (ops : Slots) (i : Fin 6) (o : Operand) : (ops.put i o).get i = o := by
  fin_cases i <;> rfl

theorem Slots.get_put_other (ops : Slots) {i j : Fin 6} (o : Operand) (h : j ≠ i) :
    (ops.put i o).get j = ops.get j := by
  fin_cases i <;> fin_cases j <;> first | rfl | exact absurd rfl h

/-- Two sets of slots with the same six operands are the same. -/
theorem Slots.ext_get {a b : Slots} (h : ∀ i, a.get i = b.get i) : a = b := by
  obtain ⟨a0, a1, a2, a3, a4, a5⟩ := a
  obtain ⟨b0, b1, b2, b3, b4, b5⟩ := b
  have h0 := h 0; have h1 := h 1; have h2 := h 2; have h3 := h 3; have h4 := h 4; have h5 := h 5
  simp only [Slots.get] at h0 h1 h2 h3 h4 h5
  subst h0 h1 h2 h3 h4 h5; rfl

/-! ## The mode bit -/

/-- The mode bit read from its byte is the bit of the word view at its place (R10, R78). -/
theorem modeBit_eq_selectedBit (l : Layout) (b : Bytes4) : modeBit l b = selectedBit l b := by
  obtain ⟨b0, b1, b2, b3⟩ := b
  obtain ⟨⟨i, j⟩, n⟩ := l
  simp only [modeBit, selectedBit, Bytes4.toWord, BitVec.getLsbD_append]
  fin_cases i <;> fin_cases j <;> simp [Bytes4.byte]

/-- At the spec's layout the mode bit is the low bit of byte 1 (R78). -/
@[simp] theorem modeBit_specLayout (b : Bytes4) : modeBit specLayout b = b.b1.getLsbD 0 := rfl

/-! ## The narrow ranges -/

/-- The first narrow range is two bits of byte 3 from its lowest bit up (R95). -/
theorem narrowFirst_eq (l : Layout) (b : Bytes4) :
    narrowFirst l b = (b.b3.extractLsb' l.narrowI2.first 2).setWidth 32 := by
  obtain ⟨_, ⟨i, _⟩⟩ := l
  fin_cases i <;> rfl

/-- The second narrow range is two bits of byte 3 from its lowest bit up (R95). -/
theorem narrowSecond_eq (l : Layout) (b : Bytes4) :
    narrowSecond l b = (b.b3.extractLsb' l.narrowI2.second 2).setWidth 32 := by
  obtain ⟨_, ⟨_, i⟩⟩ := l
  fin_cases i <;> rfl

/-! ## Validation and fetch -/

theorem variantOk_iff (minLen : Nat) (v : Option String) :
    variantOk minLen v = true ↔ ∀ n, v = some n → minLen ≤ n.length := by
  cases v <;> simp [variantOk]

theorem inputsOk_iff (p : Params) (buf : Bool) (n : Nat) (v : Option String) (k : Bool) :
    inputsOk p buf n v k = true ↔ inputsValid p buf n v k := by
  simp only [inputsOk, inputsValid, Bool.and_eq_true, decide_eq_true_eq, variantOk_iff]
  tauto

/-- What the fetch answers: `InvalidInput` for invalid inputs, else what decoding answers (R162). -/
theorem State.fetchInstr_cases (s : State) :
    (inputsOk s.params s.bufPresent s.len s.cpuVariant s.sinkPresent = false ∧
      s.fetchInstr = .error .invalidInput) ∨
    (inputsOk s.params s.bufPresent s.len s.cpuVariant s.sinkPresent = true ∧
      s.fetchInstr = decodeWord s.params s.cpuVariant s.bytes) := by
  cases h : inputsOk s.params s.bufPresent s.len s.cpuVariant s.sinkPresent <;>
    simp [State.fetchInstr, h]

/-- A word presented is fetched under any parameters. -/
theorem State.fetchInstr_presentWord (s : State) (b : Bytes4) :
    (s.presentWord b).fetchInstr = decodeWord s.params (s.presentWord b).cpuVariant b := by
  rw [State.fetchInstr, if_pos]
  · rfl
  · simp only [inputsOk, State.presentWord_bufPresent, State.presentWord_len,
      State.presentWord_cpuVariant,
      State.presentWord_sinkPresent, State.presentWord_params]
    cases h : variantOk s.params.variantMinLen s.cpuVariant
    · simp [variantOk]
    · simpa using h

/-- What decode can answer: an invalid input, the no-op, a matching entry's instruction, or no match. -/
theorem decodeWith_cases (compat : Applicability → Option String → Bool) (p : Params) (buf : Bool)
    (n : Nat) (b : Bytes4) (v : Option String) (k : Bool) :
    (inputsOk p buf n v k = false ∧ decodeWith compat p buf n b v k = .err .invalidInput) ∨
    (inputsOk p buf n v k = true ∧ b = p.nopLiteral ∧
      decodeWith compat p buf n b v k = .ok ⟨p.nopMnemonic, .nop, Slots.allUnused⟩) ∨
    (inputsOk p buf n v k = true ∧ b ≠ p.nopLiteral ∧ ∃ e, scan compat p.catalog v b.b0 = some e ∧
      decodeWith compat p buf n b v k = .ok ⟨e.mnemonic, e.cls, applyRule p.layout e.rule b⟩) ∨
    (inputsOk p buf n v k = true ∧ b ≠ p.nopLiteral ∧ scan compat p.catalog v b.b0 = none ∧
      decodeWith compat p buf n b v k = .err .unknownOpcode) := by
  cases hi : inputsOk p buf n v k
  · refine Or.inl ⟨rfl, ?_⟩
    unfold decodeWith
    split
    · rfl
    · split
      · rfl
      · simp_all [inputsOk]
  · simp only [inputsOk, Bool.and_eq_true, decide_eq_true_eq] at hi
    obtain ⟨⟨⟨rfl, rfl⟩, hn⟩, hv⟩ := hi
    by_cases hb : b = p.nopLiteral
    · simp [decodeWith, hv, hb, Nat.not_lt.2 hn]
    · cases hs : scan compat p.catalog v b.b0 <;> simp [decodeWith, hv, hb, hs, Nat.not_lt.2 hn]

/-! ## Meanings and the step -/

/-- The meaning of a word always answers, and only with the Decoded Instruction delivered. -/
@[simp] theorem complete_eq_next_iff (mnemonic : String) (cls : InstrClass) (k : RuleKind) (b : Bytes4)
    (s t : State) :
    complete mnemonic cls k b s = .next t ↔ t = s.deliver ⟨mnemonic, cls, applyRule s.params.layout k b⟩ := by
  simp [complete, eq_comm]

/-- Every instruction answers by delivering a Decoded Instruction that does not depend on the outputs. -/
theorem exec_delivers (i : Instr) (s : State) : ∃ d, exec i s = .next (s.deliver d) := by
  cases i <;> exact ⟨_, rfl⟩

/-- What a step can answer: the consumers fed by the caller, an error raised, or a word's meaning. -/
theorem step_cases (s : State) :
    (∃ d, s.request = .consume d ∧ step s = .next (s.consume d)) ∨
    (s.request = .decode ∧ ∃ e, s.fetchInstr = .error e ∧ step s = .next (s.raise e)) ∨
    (s.request = .decode ∧ ∃ i, s.fetchInstr = .ok i ∧ step s = exec i s) := by
  cases hr : s.request with
  | consume d => exact Or.inl ⟨d, rfl, by simp [step, hr]⟩
  | decode =>
    cases hf : s.fetchInstr with
    | error e => exact Or.inr (Or.inl ⟨rfl, e, rfl, by simp [step, hr, hf]⟩)
    | ok i => exact Or.inr (Or.inr ⟨rfl, i, rfl, by simp [step, hr, hf]⟩)

/-! ## The consumers -/

/-- A target is resolved for the two shapes only (R124). -/
theorem resolveTarget_cases {a t : Word} {d : DecodedInstr} (h : resolveTarget a d = some t) :
    (d.ops.shape = [.jumpDisplacement] ∧ t = a + (d.ops.get 0).value) ∨
    (d.ops.shape = [.register, .jumpDisplacement] ∧ t = a + (d.ops.get 1).value) := by
  unfold resolveTarget at h
  split at h
  · rename_i hs
    exact Or.inl ⟨hs, by simpa [eq_comm] using h⟩
  · rename_i hs
    exact Or.inr ⟨hs, by simpa [eq_comm] using h⟩
  · cases h

/-- The mapper refuses exactly above the register space (R132). -/
theorem mapReg_eq_none_iff (v : Word) : mapReg v = none ↔ 255 < v.toNat := by
  show (if v.toNat < 128 then some (RegNamespace.gr, v.toNat)
    else if v.toNat < 256 then some (RegNamespace.lr, v.toNat - 127) else none) = none ↔ _
  by_cases h1 : v.toNat < 128
  · simp [h1]; omega
  · by_cases h2 : v.toNat < 256 <;> simp [h1, h2] <;> omega

/-- An operand has no text exactly where it is unused or a register above the register space. -/
theorem operandText_eq_none_iff (a : Word) (o : Operand) :
    operandText a o = none ↔ o.type = .unused ∨ (o.type = .register ∧ 255 < o.value.toNat) := by
  cases h : o.type <;> simp [operandText, h, regText, mapReg_eq_none_iff]

/-- A line is refused exactly where one of its operands is. -/
theorem appendOperands_eq_none_iff (a : Word) (line : String) (l : List Operand) :
    appendOperands a line l = none ↔ ∃ o ∈ l, operandText a o = none := by
  induction l generalizing line with
  | nil => simp [appendOperands]
  | cons o rest ih =>
    cases h : operandText a o <;> simp [appendOperands, h, ih]

/-- The text is refused exactly where the full text is. -/
theorem render_eq_none_iff (n : Nat) (a : Word) (d : DecodedInstr) :
    render n a d = none ↔ fullText a d = none := by
  simp [render]

end Sys2Proof.Machine
end

