-- ==== Sys2Proof/Laws/PerInstr.lean ====
section
/-! SUPPORT. The per-instruction family `RowRebuild`: the row the decoder builds from an instruction's
own entry and operand bytes is that instruction. A statement about the instruction as syntax. -/

namespace Sys2Proof.Laws

/-- From the entry and the operand bytes of a well-formed instruction the decoder builds it again. -/
def RowRebuild.Statement (i : Instr) : Prop :=
  ∀ (p : Params) (e : CatalogEntry), i.entry = some e → i.wellFormed = true →
    instrOfEntry e (encode p i).b1 (encode p i).b2 (encode p i).b3 = i

theorem RowRebuild.attested_14 (app : Applicability) (mnemonic : String) (cls : InstrClass)
    (b1 b2 b3 : Byte) : RowRebuild.Statement (.attested_14 app mnemonic cls b1 b2 b3) := by
  rintro p e ⟨⟩ h
  exact instrOfEntry_attested _ _ _ _ (by simpa [Instr.wellFormed] using h) rfl

theorem RowRebuild.nopLiteral : RowRebuild.Statement .nopLiteral := by
  rintro p e h
  simp [Instr.entry] at h

theorem RowRebuild.anyRRM (e : EntryHead) (b1 b2 b3 : Byte) :
    RowRebuild.Statement (.anyRRM e b1 b2 b3) := by
  rintro p _ ⟨⟩ h
  exact instrOfEntry_generic _ _ _ _ h

theorem RowRebuild.anyRRR (e : EntryHead) (b1 b2 b3 : Byte) :
    RowRebuild.Statement (.anyRRR e b1 b2 b3) := by
  rintro p _ ⟨⟩ h
  exact instrOfEntry_generic _ _ _ _ h

theorem RowRebuild.anyRI16 (e : EntryHead) (b1 b2 b3 : Byte) :
    RowRebuild.Statement (.anyRI16 e b1 b2 b3) := by
  rintro p _ ⟨⟩ h
  exact instrOfEntry_generic _ _ _ _ h

theorem RowRebuild.anyRDISP (e : EntryHead) (b1 b2 b3 : Byte) :
    RowRebuild.Statement (.anyRDISP e b1 b2 b3) := by
  rintro p _ ⟨⟩ h
  exact instrOfEntry_generic _ _ _ _ h

theorem RowRebuild.anyDISP (e : EntryHead) (b1 b2 b3 : Byte) :
    RowRebuild.Statement (.anyDISP e b1 b2 b3) := by
  rintro p _ ⟨⟩ h
  exact instrOfEntry_generic _ _ _ _ h

theorem RowRebuild.anyLDST (e : EntryHead) (b1 b2 b3 : Byte) :
    RowRebuild.Statement (.anyLDST e b1 b2 b3) := by
  rintro p _ ⟨⟩ h
  exact instrOfEntry_generic _ _ _ _ h

theorem RowRebuild.anyICALL (e : EntryHead) (b1 b2 b3 : Byte) :
    RowRebuild.Statement (.anyICALL e b1 b2 b3) := by
  rintro p _ ⟨⟩ h
  exact instrOfEntry_generic _ _ _ _ h

theorem RowRebuild.anyRRI2 (e : EntryHead) (b1 b2 b3 : Byte) :
    RowRebuild.Statement (.anyRRI2 e b1 b2 b3) := by
  rintro p _ ⟨⟩ h
  exact instrOfEntry_generic _ _ _ _ h

theorem RowRebuild.anyCLZ (e : EntryHead) (b1 b2 b3 : Byte) :
    RowRebuild.Statement (.anyCLZ e b1 b2 b3) := by
  rintro p _ ⟨⟩ h
  exact instrOfEntry_generic _ _ _ _ h

theorem RowRebuild.anyCVT6 (e : EntryHead) (b1 b2 b3 : Byte) :
    RowRebuild.Statement (.anyCVT6 e b1 b2 b3) := by
  rintro p _ ⟨⟩ h
  exact instrOfEntry_generic _ _ _ _ h

theorem RowRebuild.anyRCRA (e : EntryHead) (b1 b2 b3 : Byte) :
    RowRebuild.Statement (.anyRCRA e b1 b2 b3) := by
  rintro p _ ⟨⟩ h
  exact instrOfEntry_generic _ _ _ _ h

theorem RowRebuild.anyMAC (e : EntryHead) (b1 b2 b3 : Byte) :
    RowRebuild.Statement (.anyMAC e b1 b2 b3) := by
  rintro p _ ⟨⟩ h
  exact instrOfEntry_generic _ _ _ _ h

theorem RowRebuild.anyR1R3 (e : EntryHead) (b1 b2 b3 : Byte) :
    RowRebuild.Statement (.anyR1R3 e b1 b2 b3) := by
  rintro p _ ⟨⟩ h
  exact instrOfEntry_generic _ _ _ _ h

theorem RowRebuild.anyRB (e : EntryHead) (b1 b2 b3 : Byte) :
    RowRebuild.Statement (.anyRB e b1 b2 b3) := by
  rintro p _ ⟨⟩ h
  exact instrOfEntry_generic _ _ _ _ h

theorem RowRebuild.anyRC_I2I2 (e : EntryHead) (b1 b2 b3 : Byte) :
    RowRebuild.Statement (.anyRC_I2I2 e b1 b2 b3) := by
  rintro p _ ⟨⟩ h
  exact instrOfEntry_generic _ _ _ _ h

theorem RowRebuild.anyRA_I2I2 (e : EntryHead) (b1 b2 b3 : Byte) :
    RowRebuild.Statement (.anyRA_I2I2 e b1 b2 b3) := by
  rintro p _ ⟨⟩ h
  exact instrOfEntry_generic _ _ _ _ h

theorem RowRebuild.anyMFSR (e : EntryHead) (b1 b2 b3 : Byte) :
    RowRebuild.Statement (.anyMFSR e b1 b2 b3) := by
  rintro p _ ⟨⟩ h
  exact instrOfEntry_generic _ _ _ _ h

theorem RowRebuild.anyMTSR (e : EntryHead) (b1 b2 b3 : Byte) :
    RowRebuild.Statement (.anyMTSR e b1 b2 b3) := by
  rintro p _ ⟨⟩ h
  exact instrOfEntry_generic _ _ _ _ h

theorem RowRebuild.anyNONE (e : EntryHead) (b1 b2 b3 : Byte) :
    RowRebuild.Statement (.anyNONE e b1 b2 b3) := by
  rintro p _ ⟨⟩ h
  exact instrOfEntry_generic _ _ _ _ h

theorem RowRebuild.constn_01 (b1 b2 b3 : Byte) : RowRebuild.Statement (.constn_01 b1 b2 b3) := by
  rintro p _ ⟨⟩ _; rfl

theorem RowRebuild.consth_02 (b1 b2 b3 : Byte) : RowRebuild.Statement (.consth_02 b1 b2 b3) := by
  rintro p _ ⟨⟩ _; rfl

theorem RowRebuild.const_03 (b1 b2 b3 : Byte) : RowRebuild.Statement (.const_03 b1 b2 b3) := by
  rintro p _ ⟨⟩ _; rfl

theorem RowRebuild.mtsrim_04 (b1 b2 b3 : Byte) : RowRebuild.Statement (.mtsrim_04 b1 b2 b3) := by
  rintro p _ ⟨⟩ _; rfl

theorem RowRebuild.consthz_05 (b1 b2 b3 : Byte) : RowRebuild.Statement (.consthz_05 b1 b2 b3) := by
  rintro p _ ⟨⟩ _; rfl

theorem RowRebuild.loadl_06 (b1 b2 b3 : Byte) : RowRebuild.Statement (.loadl_06 b1 b2 b3) := by
  rintro p _ ⟨⟩ _; rfl

theorem RowRebuild.loadl_07 (b1 b2 b3 : Byte) : RowRebuild.Statement (.loadl_07 b1 b2 b3) := by
  rintro p _ ⟨⟩ _; rfl

theorem RowRebuild.clz_08 (b1 b2 b3 : Byte) : RowRebuild.Statement (.clz_08 b1 b2 b3) := by
  rintro p _ ⟨⟩ _; rfl

theorem RowRebuild.clz_09 (b1 b2 b3 : Byte) : RowRebuild.Statement (.clz_09 b1 b2 b3) := by
  rintro p _ ⟨⟩ _; rfl

theorem RowRebuild.exbyte_0a (b1 b2 b3 : Byte) : RowRebuild.Statement (.exbyte_0a b1 b2 b3) := by
  rintro p _ ⟨⟩ _; rfl

theorem RowRebuild.exbyte_0b (b1 b2 b3 : Byte) : RowRebuild.Statement (.exbyte_0b b1 b2 b3) := by
  rintro p _ ⟨⟩ _; rfl

theorem RowRebuild.inbyte_0c (b1 b2 b3 : Byte) : RowRebuild.Statement (.inbyte_0c b1 b2 b3) := by
  rintro p _ ⟨⟩ _; rfl

theorem RowRebuild.inbyte_0d (b1 b2 b3 : Byte) : RowRebuild.Statement (.inbyte_0d b1 b2 b3) := by
  rintro p _ ⟨⟩ _; rfl

theorem RowRebuild.storel_0e (b1 b2 b3 : Byte) : RowRebuild.Statement (.storel_0e b1 b2 b3) := by
  rintro p _ ⟨⟩ _; rfl

theorem RowRebuild.storel_0f (b1 b2 b3 : Byte) : RowRebuild.Statement (.storel_0f b1 b2 b3) := by
  rintro p _ ⟨⟩ _; rfl

theorem RowRebuild.adds_10 (b1 b2 b3 : Byte) : RowRebuild.Statement (.adds_10 b1 b2 b3) := by
  rintro p _ ⟨⟩ _; rfl

theorem RowRebuild.adds_11 (b1 b2 b3 : Byte) : RowRebuild.Statement (.adds_11 b1 b2 b3) := by
  rintro p _ ⟨⟩ _; rfl

theorem RowRebuild.addu_12 (b1 b2 b3 : Byte) : RowRebuild.Statement (.addu_12 b1 b2 b3) := by
  rintro p _ ⟨⟩ _; rfl

theorem RowRebuild.addu_13 (b1 b2 b3 : Byte) : RowRebuild.Statement (.addu_13 b1 b2 b3) := by
  rintro p _ ⟨⟩ _; rfl

theorem RowRebuild.add_14 (b1 b2 b3 : Byte) : RowRebuild.Statement (.add_14 b1 b2 b3) := by
  rintro p _ ⟨⟩ _; rfl

theorem RowRebuild.add_15 (b1 b2 b3 : Byte) : RowRebuild.Statement (.add_15 b1 b2 b3) := by
  rintro p _ ⟨⟩ _; rfl

theorem RowRebuild.load_16 (b1 b2 b3 : Byte) : RowRebuild.Statement (.load_16 b1 b2 b3) := by
  rintro p _ ⟨⟩ _; rfl

theorem RowRebuild.load_17 (b1 b2 b3 : Byte) : RowRebuild.Statement (.load_17 b1 b2 b3) := by
  rintro p _ ⟨⟩ _; rfl

theorem RowRebuild.addcs_18 (b1 b2 b3 : Byte) : RowRebuild.Statement (.addcs_18 b1 b2 b3) := by
  rintro p _ ⟨⟩ _; rfl

theorem RowRebuild.addcs_19 (b1 b2 b3 : Byte) : RowRebuild.Statement (.addcs_19 b1 b2 b3) := by
  rintro p _ ⟨⟩ _; rfl

theorem RowRebuild.addcu_1a (b1 b2 b3 : Byte) : RowRebuild.Statement (.addcu_1a b1 b2 b3) := by
  rintro p _ ⟨⟩ _; rfl

theorem RowRebuild.addcu_1b (b1 b2 b3 : Byte) : RowRebuild.Statement (.addcu_1b b1 b2 b3) := by
  rintro p _ ⟨⟩ _; rfl

theorem RowRebuild.addc_1c (b1 b2 b3 : Byte) : RowRebuild.Statement (.addc_1c b1 b2 b3) := by
  rintro p _ ⟨⟩ _; rfl

theorem RowRebuild.addc_1d (b1 b2 b3 : Byte) : RowRebuild.Statement (.addc_1d b1 b2 b3) := by
  rintro p _ ⟨⟩ _; rfl

theorem RowRebuild.store_1e (b1 b2 b3 : Byte) : RowRebuild.Statement (.store_1e b1 b2 b3) := by
  rintro p _ ⟨⟩ _; rfl

theorem RowRebuild.store_1f (b1 b2 b3 : Byte) : RowRebuild.Statement (.store_1f b1 b2 b3) := by
  rintro p _ ⟨⟩ _; rfl

theorem RowRebuild.subs_20 (b1 b2 b3 : Byte) : RowRebuild.Statement (.subs_20 b1 b2 b3) := by
  rintro p _ ⟨⟩ _; rfl

theorem RowRebuild.subs_21 (b1 b2 b3 : Byte) : RowRebuild.Statement (.subs_21 b1 b2 b3) := by
  rintro p _ ⟨⟩ _; rfl

theorem RowRebuild.subu_22 (b1 b2 b3 : Byte) : RowRebuild.Statement (.subu_22 b1 b2 b3) := by
  rintro p _ ⟨⟩ _; rfl

theorem RowRebuild.subu_23 (b1 b2 b3 : Byte) : RowRebuild.Statement (.subu_23 b1 b2 b3) := by
  rintro p _ ⟨⟩ _; rfl

theorem RowRebuild.sub_24 (b1 b2 b3 : Byte) : RowRebuild.Statement (.sub_24 b1 b2 b3) := by
  rintro p _ ⟨⟩ _; rfl

theorem RowRebuild.sub_25 (b1 b2 b3 : Byte) : RowRebuild.Statement (.sub_25 b1 b2 b3) := by
  rintro p _ ⟨⟩ _; rfl

theorem RowRebuild.loadset_26 (b1 b2 b3 : Byte) : RowRebuild.Statement (.loadset_26 b1 b2 b3) := by
  rintro p _ ⟨⟩ _; rfl

theorem RowRebuild.loadset_27 (b1 b2 b3 : Byte) : RowRebuild.Statement (.loadset_27 b1 b2 b3) := by
  rintro p _ ⟨⟩ _; rfl

theorem RowRebuild.subcs_28 (b1 b2 b3 : Byte) : RowRebuild.Statement (.subcs_28 b1 b2 b3) := by
  rintro p _ ⟨⟩ _; rfl

theorem RowRebuild.subcs_29 (b1 b2 b3 : Byte) : RowRebuild.Statement (.subcs_29 b1 b2 b3) := by
  rintro p _ ⟨⟩ _; rfl

theorem RowRebuild.subcu_2a (b1 b2 b3 : Byte) : RowRebuild.Statement (.subcu_2a b1 b2 b3) := by
  rintro p _ ⟨⟩ _; rfl

theorem RowRebuild.subcu_2b (b1 b2 b3 : Byte) : RowRebuild.Statement (.subcu_2b b1 b2 b3) := by
  rintro p _ ⟨⟩ _; rfl

theorem RowRebuild.subc_2c (b1 b2 b3 : Byte) : RowRebuild.Statement (.subc_2c b1 b2 b3) := by
  rintro p _ ⟨⟩ _; rfl

theorem RowRebuild.subc_2d (b1 b2 b3 : Byte) : RowRebuild.Statement (.subc_2d b1 b2 b3) := by
  rintro p _ ⟨⟩ _; rfl

theorem RowRebuild.cpbyte_2e (b1 b2 b3 : Byte) : RowRebuild.Statement (.cpbyte_2e b1 b2 b3) := by
  rintro p _ ⟨⟩ _; rfl

theorem RowRebuild.cpbyte_2f (b1 b2 b3 : Byte) : RowRebuild.Statement (.cpbyte_2f b1 b2 b3) := by
  rintro p _ ⟨⟩ _; rfl

theorem RowRebuild.subrs_30 (b1 b2 b3 : Byte) : RowRebuild.Statement (.subrs_30 b1 b2 b3) := by
  rintro p _ ⟨⟩ _; rfl

theorem RowRebuild.subrs_31 (b1 b2 b3 : Byte) : RowRebuild.Statement (.subrs_31 b1 b2 b3) := by
  rintro p _ ⟨⟩ _; rfl

theorem RowRebuild.subru_32 (b1 b2 b3 : Byte) : RowRebuild.Statement (.subru_32 b1 b2 b3) := by
  rintro p _ ⟨⟩ _; rfl

theorem RowRebuild.subru_33 (b1 b2 b3 : Byte) : RowRebuild.Statement (.subru_33 b1 b2 b3) := by
  rintro p _ ⟨⟩ _; rfl

theorem RowRebuild.subr_34 (b1 b2 b3 : Byte) : RowRebuild.Statement (.subr_34 b1 b2 b3) := by
  rintro p _ ⟨⟩ _; rfl

theorem RowRebuild.subr_35 (b1 b2 b3 : Byte) : RowRebuild.Statement (.subr_35 b1 b2 b3) := by
  rintro p _ ⟨⟩ _; rfl

theorem RowRebuild.loadm_36 (b1 b2 b3 : Byte) : RowRebuild.Statement (.loadm_36 b1 b2 b3) := by
  rintro p _ ⟨⟩ _; rfl

theorem RowRebuild.loadm_37 (b1 b2 b3 : Byte) : RowRebuild.Statement (.loadm_37 b1 b2 b3) := by
  rintro p _ ⟨⟩ _; rfl

theorem RowRebuild.subrcs_38 (b1 b2 b3 : Byte) : RowRebuild.Statement (.subrcs_38 b1 b2 b3) := by
  rintro p _ ⟨⟩ _; rfl

theorem RowRebuild.subrcs_39 (b1 b2 b3 : Byte) : RowRebuild.Statement (.subrcs_39 b1 b2 b3) := by
  rintro p _ ⟨⟩ _; rfl

theorem RowRebuild.subrcu_3a (b1 b2 b3 : Byte) : RowRebuild.Statement (.subrcu_3a b1 b2 b3) := by
  rintro p _ ⟨⟩ _; rfl

theorem RowRebuild.subrcu_3b (b1 b2 b3 : Byte) : RowRebuild.Statement (.subrcu_3b b1 b2 b3) := by
  rintro p _ ⟨⟩ _; rfl

theorem RowRebuild.subrc_3c (b1 b2 b3 : Byte) : RowRebuild.Statement (.subrc_3c b1 b2 b3) := by
  rintro p _ ⟨⟩ _; rfl

theorem RowRebuild.subrc_3d (b1 b2 b3 : Byte) : RowRebuild.Statement (.subrc_3d b1 b2 b3) := by
  rintro p _ ⟨⟩ _; rfl

theorem RowRebuild.storem_3e (b1 b2 b3 : Byte) : RowRebuild.Statement (.storem_3e b1 b2 b3) := by
  rintro p _ ⟨⟩ _; rfl

theorem RowRebuild.storem_3f (b1 b2 b3 : Byte) : RowRebuild.Statement (.storem_3f b1 b2 b3) := by
  rintro p _ ⟨⟩ _; rfl

theorem RowRebuild.cplt_40 (b1 b2 b3 : Byte) : RowRebuild.Statement (.cplt_40 b1 b2 b3) := by
  rintro p _ ⟨⟩ _; rfl

theorem RowRebuild.cplt_41 (b1 b2 b3 : Byte) : RowRebuild.Statement (.cplt_41 b1 b2 b3) := by
  rintro p _ ⟨⟩ _; rfl

theorem RowRebuild.cpltu_42 (b1 b2 b3 : Byte) : RowRebuild.Statement (.cpltu_42 b1 b2 b3) := by
  rintro p _ ⟨⟩ _; rfl

theorem RowRebuild.cpltu_43 (b1 b2 b3 : Byte) : RowRebuild.Statement (.cpltu_43 b1 b2 b3) := by
  rintro p _ ⟨⟩ _; rfl

theorem RowRebuild.cple_44 (b1 b2 b3 : Byte) : RowRebuild.Statement (.cple_44 b1 b2 b3) := by
  rintro p _ ⟨⟩ _; rfl

theorem RowRebuild.cple_45 (b1 b2 b3 : Byte) : RowRebuild.Statement (.cple_45 b1 b2 b3) := by
  rintro p _ ⟨⟩ _; rfl

theorem RowRebuild.cpleu_46 (b1 b2 b3 : Byte) : RowRebuild.Statement (.cpleu_46 b1 b2 b3) := by
  rintro p _ ⟨⟩ _; rfl

theorem RowRebuild.cpleu_47 (b1 b2 b3 : Byte) : RowRebuild.Statement (.cpleu_47 b1 b2 b3) := by
  rintro p _ ⟨⟩ _; rfl

theorem RowRebuild.cpgt_48 (b1 b2 b3 : Byte) : RowRebuild.Statement (.cpgt_48 b1 b2 b3) := by
  rintro p _ ⟨⟩ _; rfl

theorem RowRebuild.cpgt_49 (b1 b2 b3 : Byte) : RowRebuild.Statement (.cpgt_49 b1 b2 b3) := by
  rintro p _ ⟨⟩ _; rfl

theorem RowRebuild.cpgtu_4a (b1 b2 b3 : Byte) : RowRebuild.Statement (.cpgtu_4a b1 b2 b3) := by
  rintro p _ ⟨⟩ _; rfl

theorem RowRebuild.cpgtu_4b (b1 b2 b3 : Byte) : RowRebuild.Statement (.cpgtu_4b b1 b2 b3) := by
  rintro p _ ⟨⟩ _; rfl

theorem RowRebuild.cpge_4c (b1 b2 b3 : Byte) : RowRebuild.Statement (.cpge_4c b1 b2 b3) := by
  rintro p _ ⟨⟩ _; rfl

theorem RowRebuild.cpge_4d (b1 b2 b3 : Byte) : RowRebuild.Statement (.cpge_4d b1 b2 b3) := by
  rintro p _ ⟨⟩ _; rfl

theorem RowRebuild.cpgeu_4e (b1 b2 b3 : Byte) : RowRebuild.Statement (.cpgeu_4e b1 b2 b3) := by
  rintro p _ ⟨⟩ _; rfl

theorem RowRebuild.cpgeu_4f (b1 b2 b3 : Byte) : RowRebuild.Statement (.cpgeu_4f b1 b2 b3) := by
  rintro p _ ⟨⟩ _; rfl

theorem RowRebuild.aslt_50 (b1 b2 b3 : Byte) : RowRebuild.Statement (.aslt_50 b1 b2 b3) := by
  rintro p _ ⟨⟩ _; rfl

theorem RowRebuild.aslt_51 (b1 b2 b3 : Byte) : RowRebuild.Statement (.aslt_51 b1 b2 b3) := by
  rintro p _ ⟨⟩ _; rfl

theorem RowRebuild.asltu_52 (b1 b2 b3 : Byte) : RowRebuild.Statement (.asltu_52 b1 b2 b3) := by
  rintro p _ ⟨⟩ _; rfl

theorem RowRebuild.asltu_53 (b1 b2 b3 : Byte) : RowRebuild.Statement (.asltu_53 b1 b2 b3) := by
  rintro p _ ⟨⟩ _; rfl

theorem RowRebuild.asle_54 (b1 b2 b3 : Byte) : RowRebuild.Statement (.asle_54 b1 b2 b3) := by
  rintro p _ ⟨⟩ _; rfl

theorem RowRebuild.asle_55 (b1 b2 b3 : Byte) : RowRebuild.Statement (.asle_55 b1 b2 b3) := by
  rintro p _ ⟨⟩ _; rfl

theorem RowRebuild.asleu_56 (b1 b2 b3 : Byte) : RowRebuild.Statement (.asleu_56 b1 b2 b3) := by
  rintro p _ ⟨⟩ _; rfl

theorem RowRebuild.asleu_57 (b1 b2 b3 : Byte) : RowRebuild.Statement (.asleu_57 b1 b2 b3) := by
  rintro p _ ⟨⟩ _; rfl

theorem RowRebuild.asgt_58 (b1 b2 b3 : Byte) : RowRebuild.Statement (.asgt_58 b1 b2 b3) := by
  rintro p _ ⟨⟩ _; rfl

theorem RowRebuild.asgt_59 (b1 b2 b3 : Byte) : RowRebuild.Statement (.asgt_59 b1 b2 b3) := by
  rintro p _ ⟨⟩ _; rfl

theorem RowRebuild.asgtu_5a (b1 b2 b3 : Byte) : RowRebuild.Statement (.asgtu_5a b1 b2 b3) := by
  rintro p _ ⟨⟩ _; rfl

theorem RowRebuild.asgtu_5b (b1 b2 b3 : Byte) : RowRebuild.Statement (.asgtu_5b b1 b2 b3) := by
  rintro p _ ⟨⟩ _; rfl

theorem RowRebuild.asge_5c (b1 b2 b3 : Byte) : RowRebuild.Statement (.asge_5c b1 b2 b3) := by
  rintro p _ ⟨⟩ _; rfl

theorem RowRebuild.asge_5d (b1 b2 b3 : Byte) : RowRebuild.Statement (.asge_5d b1 b2 b3) := by
  rintro p _ ⟨⟩ _; rfl

theorem RowRebuild.asgeu_5e (b1 b2 b3 : Byte) : RowRebuild.Statement (.asgeu_5e b1 b2 b3) := by
  rintro p _ ⟨⟩ _; rfl

theorem RowRebuild.asgeu_5f (b1 b2 b3 : Byte) : RowRebuild.Statement (.asgeu_5f b1 b2 b3) := by
  rintro p _ ⟨⟩ _; rfl

theorem RowRebuild.cpeq_60 (b1 b2 b3 : Byte) : RowRebuild.Statement (.cpeq_60 b1 b2 b3) := by
  rintro p _ ⟨⟩ _; rfl

theorem RowRebuild.cpeq_61 (b1 b2 b3 : Byte) : RowRebuild.Statement (.cpeq_61 b1 b2 b3) := by
  rintro p _ ⟨⟩ _; rfl

theorem RowRebuild.cpneq_62 (b1 b2 b3 : Byte) : RowRebuild.Statement (.cpneq_62 b1 b2 b3) := by
  rintro p _ ⟨⟩ _; rfl

theorem RowRebuild.cpneq_63 (b1 b2 b3 : Byte) : RowRebuild.Statement (.cpneq_63 b1 b2 b3) := by
  rintro p _ ⟨⟩ _; rfl

theorem RowRebuild.mul_64 (b1 b2 b3 : Byte) : RowRebuild.Statement (.mul_64 b1 b2 b3) := by
  rintro p _ ⟨⟩ _; rfl

theorem RowRebuild.mul_65 (b1 b2 b3 : Byte) : RowRebuild.Statement (.mul_65 b1 b2 b3) := by
  rintro p _ ⟨⟩ _; rfl

theorem RowRebuild.mull_66 (b1 b2 b3 : Byte) : RowRebuild.Statement (.mull_66 b1 b2 b3) := by
  rintro p _ ⟨⟩ _; rfl

theorem RowRebuild.mull_67 (b1 b2 b3 : Byte) : RowRebuild.Statement (.mull_67 b1 b2 b3) := by
  rintro p _ ⟨⟩ _; rfl

theorem RowRebuild.div0_68 (b1 b2 b3 : Byte) : RowRebuild.Statement (.div0_68 b1 b2 b3) := by
  rintro p _ ⟨⟩ _; rfl

theorem RowRebuild.div0_69 (b1 b2 b3 : Byte) : RowRebuild.Statement (.div0_69 b1 b2 b3) := by
  rintro p _ ⟨⟩ _; rfl

theorem RowRebuild.div_6a (b1 b2 b3 : Byte) : RowRebuild.Statement (.div_6a b1 b2 b3) := by
  rintro p _ ⟨⟩ _; rfl

theorem RowRebuild.div_6b (b1 b2 b3 : Byte) : RowRebuild.Statement (.div_6b b1 b2 b3) := by
  rintro p _ ⟨⟩ _; rfl

theorem RowRebuild.divl_6c (b1 b2 b3 : Byte) : RowRebuild.Statement (.divl_6c b1 b2 b3) := by
  rintro p _ ⟨⟩ _; rfl

theorem RowRebuild.divl_6d (b1 b2 b3 : Byte) : RowRebuild.Statement (.divl_6d b1 b2 b3) := by
  rintro p _ ⟨⟩ _; rfl

theorem RowRebuild.divrem_6e (b1 b2 b3 : Byte) : RowRebuild.Statement (.divrem_6e b1 b2 b3) := by
  rintro p _ ⟨⟩ _; rfl

theorem RowRebuild.divrem_6f (b1 b2 b3 : Byte) : RowRebuild.Statement (.divrem_6f b1 b2 b3) := by
  rintro p _ ⟨⟩ _; rfl

theorem RowRebuild.aseq_70 (b1 b2 b3 : Byte) : RowRebuild.Statement (.aseq_70 b1 b2 b3) := by
  rintro p _ ⟨⟩ _; rfl

theorem RowRebuild.aseq_71 (b1 b2 b3 : Byte) : RowRebuild.Statement (.aseq_71 b1 b2 b3) := by
  rintro p _ ⟨⟩ _; rfl

theorem RowRebuild.asneq_72 (b1 b2 b3 : Byte) : RowRebuild.Statement (.asneq_72 b1 b2 b3) := by
  rintro p _ ⟨⟩ _; rfl

theorem RowRebuild.asneq_73 (b1 b2 b3 : Byte) : RowRebuild.Statement (.asneq_73 b1 b2 b3) := by
  rintro p _ ⟨⟩ _; rfl

theorem RowRebuild.mulu_74 (b1 b2 b3 : Byte) : RowRebuild.Statement (.mulu_74 b1 b2 b3) := by
  rintro p _ ⟨⟩ _; rfl

theorem RowRebuild.mulu_75 (b1 b2 b3 : Byte) : RowRebuild.Statement (.mulu_75 b1 b2 b3) := by
  rintro p _ ⟨⟩ _; rfl

theorem RowRebuild.inhw_78 (b1 b2 b3 : Byte) : RowRebuild.Statement (.inhw_78 b1 b2 b3) := by
  rintro p _ ⟨⟩ _; rfl

theorem RowRebuild.inhw_79 (b1 b2 b3 : Byte) : RowRebuild.Statement (.inhw_79 b1 b2 b3) := by
  rintro p _ ⟨⟩ _; rfl

theorem RowRebuild.extract_7a (b1 b2 b3 : Byte) : RowRebuild.Statement (.extract_7a b1 b2 b3) := by
  rintro p _ ⟨⟩ _; rfl

theorem RowRebuild.extract_7b (b1 b2 b3 : Byte) : RowRebuild.Statement (.extract_7b b1 b2 b3) := by
  rintro p _ ⟨⟩ _; rfl

theorem RowRebuild.exhw_7c (b1 b2 b3 : Byte) : RowRebuild.Statement (.exhw_7c b1 b2 b3) := by
  rintro p _ ⟨⟩ _; rfl

theorem RowRebuild.exhw_7d (b1 b2 b3 : Byte) : RowRebuild.Statement (.exhw_7d b1 b2 b3) := by
  rintro p _ ⟨⟩ _; rfl

theorem RowRebuild.exhws_7e (b1 b2 b3 : Byte) : RowRebuild.Statement (.exhws_7e b1 b2 b3) := by
  rintro p _ ⟨⟩ _; rfl

theorem RowRebuild.sll_80 (b1 b2 b3 : Byte) : RowRebuild.Statement (.sll_80 b1 b2 b3) := by
  rintro p _ ⟨⟩ _; rfl

theorem RowRebuild.sll_81 (b1 b2 b3 : Byte) : RowRebuild.Statement (.sll_81 b1 b2 b3) := by
  rintro p _ ⟨⟩ _; rfl

theorem RowRebuild.srl_82 (b1 b2 b3 : Byte) : RowRebuild.Statement (.srl_82 b1 b2 b3) := by
  rintro p _ ⟨⟩ _; rfl

theorem RowRebuild.srl_83 (b1 b2 b3 : Byte) : RowRebuild.Statement (.srl_83 b1 b2 b3) := by
  rintro p _ ⟨⟩ _; rfl

theorem RowRebuild.sra_86 (b1 b2 b3 : Byte) : RowRebuild.Statement (.sra_86 b1 b2 b3) := by
  rintro p _ ⟨⟩ _; rfl

theorem RowRebuild.sra_87 (b1 b2 b3 : Byte) : RowRebuild.Statement (.sra_87 b1 b2 b3) := by
  rintro p _ ⟨⟩ _; rfl

theorem RowRebuild.iret_88 (b1 b2 b3 : Byte) : RowRebuild.Statement (.iret_88 b1 b2 b3) := by
  rintro p _ ⟨⟩ _; rfl

theorem RowRebuild.halt_89 (b1 b2 b3 : Byte) : RowRebuild.Statement (.halt_89 b1 b2 b3) := by
  rintro p _ ⟨⟩ _; rfl

theorem RowRebuild.iretinv_8c (b1 b2 b3 : Byte) : RowRebuild.Statement (.iretinv_8c b1 b2 b3) := by
  rintro p _ ⟨⟩ _; rfl

theorem RowRebuild.and_90 (b1 b2 b3 : Byte) : RowRebuild.Statement (.and_90 b1 b2 b3) := by
  rintro p _ ⟨⟩ _; rfl

theorem RowRebuild.and_91 (b1 b2 b3 : Byte) : RowRebuild.Statement (.and_91 b1 b2 b3) := by
  rintro p _ ⟨⟩ _; rfl

theorem RowRebuild.or_92 (b1 b2 b3 : Byte) : RowRebuild.Statement (.or_92 b1 b2 b3) := by
  rintro p _ ⟨⟩ _; rfl

theorem RowRebuild.or_93 (b1 b2 b3 : Byte) : RowRebuild.Statement (.or_93 b1 b2 b3) := by
  rintro p _ ⟨⟩ _; rfl

theorem RowRebuild.xor_94 (b1 b2 b3 : Byte) : RowRebuild.Statement (.xor_94 b1 b2 b3) := by
  rintro p _ ⟨⟩ _; rfl

theorem RowRebuild.xor_95 (b1 b2 b3 : Byte) : RowRebuild.Statement (.xor_95 b1 b2 b3) := by
  rintro p _ ⟨⟩ _; rfl

theorem RowRebuild.xnor_96 (b1 b2 b3 : Byte) : RowRebuild.Statement (.xnor_96 b1 b2 b3) := by
  rintro p _ ⟨⟩ _; rfl

theorem RowRebuild.xnor_97 (b1 b2 b3 : Byte) : RowRebuild.Statement (.xnor_97 b1 b2 b3) := by
  rintro p _ ⟨⟩ _; rfl

theorem RowRebuild.nor_98 (b1 b2 b3 : Byte) : RowRebuild.Statement (.nor_98 b1 b2 b3) := by
  rintro p _ ⟨⟩ _; rfl

theorem RowRebuild.nor_99 (b1 b2 b3 : Byte) : RowRebuild.Statement (.nor_99 b1 b2 b3) := by
  rintro p _ ⟨⟩ _; rfl

theorem RowRebuild.nand_9a (b1 b2 b3 : Byte) : RowRebuild.Statement (.nand_9a b1 b2 b3) := by
  rintro p _ ⟨⟩ _; rfl

theorem RowRebuild.nand_9b (b1 b2 b3 : Byte) : RowRebuild.Statement (.nand_9b b1 b2 b3) := by
  rintro p _ ⟨⟩ _; rfl

theorem RowRebuild.andn_9c (b1 b2 b3 : Byte) : RowRebuild.Statement (.andn_9c b1 b2 b3) := by
  rintro p _ ⟨⟩ _; rfl

theorem RowRebuild.andn_9d (b1 b2 b3 : Byte) : RowRebuild.Statement (.andn_9d b1 b2 b3) := by
  rintro p _ ⟨⟩ _; rfl

theorem RowRebuild.setip_9e (b1 b2 b3 : Byte) : RowRebuild.Statement (.setip_9e b1 b2 b3) := by
  rintro p _ ⟨⟩ _; rfl

theorem RowRebuild.inv_9f (b1 b2 b3 : Byte) : RowRebuild.Statement (.inv_9f b1 b2 b3) := by
  rintro p _ ⟨⟩ _; rfl

theorem RowRebuild.jmp_a0 (b1 b2 b3 : Byte) : RowRebuild.Statement (.jmp_a0 b1 b2 b3) := by
  rintro p _ ⟨⟩ _; rfl

theorem RowRebuild.jmp_a1 (b1 b2 b3 : Byte) : RowRebuild.Statement (.jmp_a1 b1 b2 b3) := by
  rintro p _ ⟨⟩ _; rfl

theorem RowRebuild.jmpf_a4 (b1 b2 b3 : Byte) : RowRebuild.Statement (.jmpf_a4 b1 b2 b3) := by
  rintro p _ ⟨⟩ _; rfl

theorem RowRebuild.jmpf_a5 (b1 b2 b3 : Byte) : RowRebuild.Statement (.jmpf_a5 b1 b2 b3) := by
  rintro p _ ⟨⟩ _; rfl

theorem RowRebuild.call_a8 (b1 b2 b3 : Byte) : RowRebuild.Statement (.call_a8 b1 b2 b3) := by
  rintro p _ ⟨⟩ _; rfl

theorem RowRebuild.call_a9 (b1 b2 b3 : Byte) : RowRebuild.Statement (.call_a9 b1 b2 b3) := by
  rintro p _ ⟨⟩ _; rfl

theorem RowRebuild.orn_aa (b1 b2 b3 : Byte) : RowRebuild.Statement (.orn_aa b1 b2 b3) := by
  rintro p _ ⟨⟩ _; rfl

theorem RowRebuild.orn_ab (b1 b2 b3 : Byte) : RowRebuild.Statement (.orn_ab b1 b2 b3) := by
  rintro p _ ⟨⟩ _; rfl

theorem RowRebuild.jmpt_ac (b1 b2 b3 : Byte) : RowRebuild.Statement (.jmpt_ac b1 b2 b3) := by
  rintro p _ ⟨⟩ _; rfl

theorem RowRebuild.jmpt_ad (b1 b2 b3 : Byte) : RowRebuild.Statement (.jmpt_ad b1 b2 b3) := by
  rintro p _ ⟨⟩ _; rfl

theorem RowRebuild.jmpfdec_b4 (b1 b2 b3 : Byte) : RowRebuild.Statement (.jmpfdec_b4 b1 b2 b3) := by
  rintro p _ ⟨⟩ _; rfl

theorem RowRebuild.jmpfdec_b5 (b1 b2 b3 : Byte) : RowRebuild.Statement (.jmpfdec_b5 b1 b2 b3) := by
  rintro p _ ⟨⟩ _; rfl

theorem RowRebuild.mftlb_b6 (b1 b2 b3 : Byte) : RowRebuild.Statement (.mftlb_b6 b1 b2 b3) := by
  rintro p _ ⟨⟩ _; rfl

theorem RowRebuild.mttlb_be (b1 b2 b3 : Byte) : RowRebuild.Statement (.mttlb_be b1 b2 b3) := by
  rintro p _ ⟨⟩ _; rfl

theorem RowRebuild.jmpi_c0 (b1 b2 b3 : Byte) : RowRebuild.Statement (.jmpi_c0 b1 b2 b3) := by
  rintro p _ ⟨⟩ _; rfl

theorem RowRebuild.jmpfi_c4 (b1 b2 b3 : Byte) : RowRebuild.Statement (.jmpfi_c4 b1 b2 b3) := by
  rintro p _ ⟨⟩ _; rfl

theorem RowRebuild.mfsr_c6 (b1 b2 b3 : Byte) : RowRebuild.Statement (.mfsr_c6 b1 b2 b3) := by
  rintro p _ ⟨⟩ _; rfl

theorem RowRebuild.calli_c8 (b1 b2 b3 : Byte) : RowRebuild.Statement (.calli_c8 b1 b2 b3) := by
  rintro p _ ⟨⟩ _; rfl

theorem RowRebuild.jmpti_cc (b1 b2 b3 : Byte) : RowRebuild.Statement (.jmpti_cc b1 b2 b3) := by
  rintro p _ ⟨⟩ _; rfl

theorem RowRebuild.mtsr_ce (b1 b2 b3 : Byte) : RowRebuild.Statement (.mtsr_ce b1 b2 b3) := by
  rintro p _ ⟨⟩ _; rfl

theorem RowRebuild.emulate_d7 (b1 b2 b3 : Byte) : RowRebuild.Statement (.emulate_d7 b1 b2 b3) := by
  rintro p _ ⟨⟩ _; rfl

theorem RowRebuild.fmac_d8 (b1 b2 b3 : Byte) : RowRebuild.Statement (.fmac_d8 b1 b2 b3) := by
  rintro p _ ⟨⟩ _; rfl

theorem RowRebuild.dmac_d9 (b1 b2 b3 : Byte) : RowRebuild.Statement (.dmac_d9 b1 b2 b3) := by
  rintro p _ ⟨⟩ _; rfl

theorem RowRebuild.fmsm_da (b1 b2 b3 : Byte) : RowRebuild.Statement (.fmsm_da b1 b2 b3) := by
  rintro p _ ⟨⟩ _; rfl

theorem RowRebuild.dmsm_db (b1 b2 b3 : Byte) : RowRebuild.Statement (.dmsm_db b1 b2 b3) := by
  rintro p _ ⟨⟩ _; rfl

theorem RowRebuild.multm_de (b1 b2 b3 : Byte) : RowRebuild.Statement (.multm_de b1 b2 b3) := by
  rintro p _ ⟨⟩ _; rfl

theorem RowRebuild.multmu_df (b1 b2 b3 : Byte) : RowRebuild.Statement (.multmu_df b1 b2 b3) := by
  rintro p _ ⟨⟩ _; rfl

theorem RowRebuild.multiply_e0 (b1 b2 b3 : Byte) : RowRebuild.Statement (.multiply_e0 b1 b2 b3) := by
  rintro p _ ⟨⟩ _; rfl

theorem RowRebuild.divide_e1 (b1 b2 b3 : Byte) : RowRebuild.Statement (.divide_e1 b1 b2 b3) := by
  rintro p _ ⟨⟩ _; rfl

theorem RowRebuild.multiplu_e2 (b1 b2 b3 : Byte) : RowRebuild.Statement (.multiplu_e2 b1 b2 b3) := by
  rintro p _ ⟨⟩ _; rfl

theorem RowRebuild.dividu_e3 (b1 b2 b3 : Byte) : RowRebuild.Statement (.dividu_e3 b1 b2 b3) := by
  rintro p _ ⟨⟩ _; rfl

theorem RowRebuild.convert_e4 (b1 b2 b3 : Byte) : RowRebuild.Statement (.convert_e4 b1 b2 b3) := by
  rintro p _ ⟨⟩ _; rfl

theorem RowRebuild.sqrt_e5 (b1 b2 b3 : Byte) : RowRebuild.Statement (.sqrt_e5 b1 b2 b3) := by
  rintro p _ ⟨⟩ _; rfl

theorem RowRebuild.class_e6 (b1 b2 b3 : Byte) : RowRebuild.Statement (.class_e6 b1 b2 b3) := by
  rintro p _ ⟨⟩ _; rfl

theorem RowRebuild.mtacc_e8 (b1 b2 b3 : Byte) : RowRebuild.Statement (.mtacc_e8 b1 b2 b3) := by
  rintro p _ ⟨⟩ _; rfl

theorem RowRebuild.mfacc_e9 (b1 b2 b3 : Byte) : RowRebuild.Statement (.mfacc_e9 b1 b2 b3) := by
  rintro p _ ⟨⟩ _; rfl

theorem RowRebuild.feq_ea (b1 b2 b3 : Byte) : RowRebuild.Statement (.feq_ea b1 b2 b3) := by
  rintro p _ ⟨⟩ _; rfl

theorem RowRebuild.deq_eb (b1 b2 b3 : Byte) : RowRebuild.Statement (.deq_eb b1 b2 b3) := by
  rintro p _ ⟨⟩ _; rfl

theorem RowRebuild.fgt_ec (b1 b2 b3 : Byte) : RowRebuild.Statement (.fgt_ec b1 b2 b3) := by
  rintro p _ ⟨⟩ _; rfl

theorem RowRebuild.dgt_ed (b1 b2 b3 : Byte) : RowRebuild.Statement (.dgt_ed b1 b2 b3) := by
  rintro p _ ⟨⟩ _; rfl

theorem RowRebuild.fge_ee (b1 b2 b3 : Byte) : RowRebuild.Statement (.fge_ee b1 b2 b3) := by
  rintro p _ ⟨⟩ _; rfl

theorem RowRebuild.dge_ef (b1 b2 b3 : Byte) : RowRebuild.Statement (.dge_ef b1 b2 b3) := by
  rintro p _ ⟨⟩ _; rfl

theorem RowRebuild.fadd_f0 (b1 b2 b3 : Byte) : RowRebuild.Statement (.fadd_f0 b1 b2 b3) := by
  rintro p _ ⟨⟩ _; rfl

theorem RowRebuild.dadd_f1 (b1 b2 b3 : Byte) : RowRebuild.Statement (.dadd_f1 b1 b2 b3) := by
  rintro p _ ⟨⟩ _; rfl

theorem RowRebuild.fsub_f2 (b1 b2 b3 : Byte) : RowRebuild.Statement (.fsub_f2 b1 b2 b3) := by
  rintro p _ ⟨⟩ _; rfl

theorem RowRebuild.dsub_f3 (b1 b2 b3 : Byte) : RowRebuild.Statement (.dsub_f3 b1 b2 b3) := by
  rintro p _ ⟨⟩ _; rfl

theorem RowRebuild.fmul_f4 (b1 b2 b3 : Byte) : RowRebuild.Statement (.fmul_f4 b1 b2 b3) := by
  rintro p _ ⟨⟩ _; rfl

theorem RowRebuild.dmul_f5 (b1 b2 b3 : Byte) : RowRebuild.Statement (.dmul_f5 b1 b2 b3) := by
  rintro p _ ⟨⟩ _; rfl

theorem RowRebuild.fdiv_f6 (b1 b2 b3 : Byte) : RowRebuild.Statement (.fdiv_f6 b1 b2 b3) := by
  rintro p _ ⟨⟩ _; rfl

theorem RowRebuild.ddiv_f7 (b1 b2 b3 : Byte) : RowRebuild.Statement (.ddiv_f7 b1 b2 b3) := by
  rintro p _ ⟨⟩ _; rfl

theorem RowRebuild.fdmul_f9 (b1 b2 b3 : Byte) : RowRebuild.Statement (.fdmul_f9 b1 b2 b3) := by
  rintro p _ ⟨⟩ _; rfl

/-- The family for every instruction. -/
theorem RowRebuild.all (i : Instr) : RowRebuild.Statement i := by
  cases i with
  | attested_14 app mnemonic cls b1 b2 b3 => exact RowRebuild.attested_14 app mnemonic cls b1 b2 b3
  | nopLiteral => exact RowRebuild.nopLiteral
  | anyRRM e b1 b2 b3 => exact RowRebuild.anyRRM e b1 b2 b3
  | anyRRR e b1 b2 b3 => exact RowRebuild.anyRRR e b1 b2 b3
  | anyRI16 e b1 b2 b3 => exact RowRebuild.anyRI16 e b1 b2 b3
  | anyRDISP e b1 b2 b3 => exact RowRebuild.anyRDISP e b1 b2 b3
  | anyDISP e b1 b2 b3 => exact RowRebuild.anyDISP e b1 b2 b3
  | anyLDST e b1 b2 b3 => exact RowRebuild.anyLDST e b1 b2 b3
  | anyICALL e b1 b2 b3 => exact RowRebuild.anyICALL e b1 b2 b3
  | anyRRI2 e b1 b2 b3 => exact RowRebuild.anyRRI2 e b1 b2 b3
  | anyCLZ e b1 b2 b3 => exact RowRebuild.anyCLZ e b1 b2 b3
  | anyCVT6 e b1 b2 b3 => exact RowRebuild.anyCVT6 e b1 b2 b3
  | anyRCRA e b1 b2 b3 => exact RowRebuild.anyRCRA e b1 b2 b3
  | anyMAC e b1 b2 b3 => exact RowRebuild.anyMAC e b1 b2 b3
  | anyR1R3 e b1 b2 b3 => exact RowRebuild.anyR1R3 e b1 b2 b3
  | anyRB e b1 b2 b3 => exact RowRebuild.anyRB e b1 b2 b3
  | anyRC_I2I2 e b1 b2 b3 => exact RowRebuild.anyRC_I2I2 e b1 b2 b3
  | anyRA_I2I2 e b1 b2 b3 => exact RowRebuild.anyRA_I2I2 e b1 b2 b3
  | anyMFSR e b1 b2 b3 => exact RowRebuild.anyMFSR e b1 b2 b3
  | anyMTSR e b1 b2 b3 => exact RowRebuild.anyMTSR e b1 b2 b3
  | anyNONE e b1 b2 b3 => exact RowRebuild.anyNONE e b1 b2 b3
  | constn_01 b1 b2 b3 => exact RowRebuild.constn_01 b1 b2 b3
  | consth_02 b1 b2 b3 => exact RowRebuild.consth_02 b1 b2 b3
  | const_03 b1 b2 b3 => exact RowRebuild.const_03 b1 b2 b3
  | mtsrim_04 b1 b2 b3 => exact RowRebuild.mtsrim_04 b1 b2 b3
  | consthz_05 b1 b2 b3 => exact RowRebuild.consthz_05 b1 b2 b3
  | loadl_06 b1 b2 b3 => exact RowRebuild.loadl_06 b1 b2 b3
  | loadl_07 b1 b2 b3 => exact RowRebuild.loadl_07 b1 b2 b3
  | clz_08 b1 b2 b3 => exact RowRebuild.clz_08 b1 b2 b3
  | clz_09 b1 b2 b3 => exact RowRebuild.clz_09 b1 b2 b3
  | exbyte_0a b1 b2 b3 => exact RowRebuild.exbyte_0a b1 b2 b3
  | exbyte_0b b1 b2 b3 => exact RowRebuild.exbyte_0b b1 b2 b3
  | inbyte_0c b1 b2 b3 => exact RowRebuild.inbyte_0c b1 b2 b3
  | inbyte_0d b1 b2 b3 => exact RowRebuild.inbyte_0d b1 b2 b3
  | storel_0e b1 b2 b3 => exact RowRebuild.storel_0e b1 b2 b3
  | storel_0f b1 b2 b3 => exact RowRebuild.storel_0f b1 b2 b3
  | adds_10 b1 b2 b3 => exact RowRebuild.adds_10 b1 b2 b3
  | adds_11 b1 b2 b3 => exact RowRebuild.adds_11 b1 b2 b3
  | addu_12 b1 b2 b3 => exact RowRebuild.addu_12 b1 b2 b3
  | addu_13 b1 b2 b3 => exact RowRebuild.addu_13 b1 b2 b3
  | add_14 b1 b2 b3 => exact RowRebuild.add_14 b1 b2 b3
  | add_15 b1 b2 b3 => exact RowRebuild.add_15 b1 b2 b3
  | load_16 b1 b2 b3 => exact RowRebuild.load_16 b1 b2 b3
  | load_17 b1 b2 b3 => exact RowRebuild.load_17 b1 b2 b3
  | addcs_18 b1 b2 b3 => exact RowRebuild.addcs_18 b1 b2 b3
  | addcs_19 b1 b2 b3 => exact RowRebuild.addcs_19 b1 b2 b3
  | addcu_1a b1 b2 b3 => exact RowRebuild.addcu_1a b1 b2 b3
  | addcu_1b b1 b2 b3 => exact RowRebuild.addcu_1b b1 b2 b3
  | addc_1c b1 b2 b3 => exact RowRebuild.addc_1c b1 b2 b3
  | addc_1d b1 b2 b3 => exact RowRebuild.addc_1d b1 b2 b3
  | store_1e b1 b2 b3 => exact RowRebuild.store_1e b1 b2 b3
  | store_1f b1 b2 b3 => exact RowRebuild.store_1f b1 b2 b3
  | subs_20 b1 b2 b3 => exact RowRebuild.subs_20 b1 b2 b3
  | subs_21 b1 b2 b3 => exact RowRebuild.subs_21 b1 b2 b3
  | subu_22 b1 b2 b3 => exact RowRebuild.subu_22 b1 b2 b3
  | subu_23 b1 b2 b3 => exact RowRebuild.subu_23 b1 b2 b3
  | sub_24 b1 b2 b3 => exact RowRebuild.sub_24 b1 b2 b3
  | sub_25 b1 b2 b3 => exact RowRebuild.sub_25 b1 b2 b3
  | loadset_26 b1 b2 b3 => exact RowRebuild.loadset_26 b1 b2 b3
  | loadset_27 b1 b2 b3 => exact RowRebuild.loadset_27 b1 b2 b3
  | subcs_28 b1 b2 b3 => exact RowRebuild.subcs_28 b1 b2 b3
  | subcs_29 b1 b2 b3 => exact RowRebuild.subcs_29 b1 b2 b3
  | subcu_2a b1 b2 b3 => exact RowRebuild.subcu_2a b1 b2 b3
  | subcu_2b b1 b2 b3 => exact RowRebuild.subcu_2b b1 b2 b3
  | subc_2c b1 b2 b3 => exact RowRebuild.subc_2c b1 b2 b3
  | subc_2d b1 b2 b3 => exact RowRebuild.subc_2d b1 b2 b3
  | cpbyte_2e b1 b2 b3 => exact RowRebuild.cpbyte_2e b1 b2 b3
  | cpbyte_2f b1 b2 b3 => exact RowRebuild.cpbyte_2f b1 b2 b3
  | subrs_30 b1 b2 b3 => exact RowRebuild.subrs_30 b1 b2 b3
  | subrs_31 b1 b2 b3 => exact RowRebuild.subrs_31 b1 b2 b3
  | subru_32 b1 b2 b3 => exact RowRebuild.subru_32 b1 b2 b3
  | subru_33 b1 b2 b3 => exact RowRebuild.subru_33 b1 b2 b3
  | subr_34 b1 b2 b3 => exact RowRebuild.subr_34 b1 b2 b3
  | subr_35 b1 b2 b3 => exact RowRebuild.subr_35 b1 b2 b3
  | loadm_36 b1 b2 b3 => exact RowRebuild.loadm_36 b1 b2 b3
  | loadm_37 b1 b2 b3 => exact RowRebuild.loadm_37 b1 b2 b3
  | subrcs_38 b1 b2 b3 => exact RowRebuild.subrcs_38 b1 b2 b3
  | subrcs_39 b1 b2 b3 => exact RowRebuild.subrcs_39 b1 b2 b3
  | subrcu_3a b1 b2 b3 => exact RowRebuild.subrcu_3a b1 b2 b3
  | subrcu_3b b1 b2 b3 => exact RowRebuild.subrcu_3b b1 b2 b3
  | subrc_3c b1 b2 b3 => exact RowRebuild.subrc_3c b1 b2 b3
  | subrc_3d b1 b2 b3 => exact RowRebuild.subrc_3d b1 b2 b3
  | storem_3e b1 b2 b3 => exact RowRebuild.storem_3e b1 b2 b3
  | storem_3f b1 b2 b3 => exact RowRebuild.storem_3f b1 b2 b3
  | cplt_40 b1 b2 b3 => exact RowRebuild.cplt_40 b1 b2 b3
  | cplt_41 b1 b2 b3 => exact RowRebuild.cplt_41 b1 b2 b3
  | cpltu_42 b1 b2 b3 => exact RowRebuild.cpltu_42 b1 b2 b3
  | cpltu_43 b1 b2 b3 => exact RowRebuild.cpltu_43 b1 b2 b3
  | cple_44 b1 b2 b3 => exact RowRebuild.cple_44 b1 b2 b3
  | cple_45 b1 b2 b3 => exact RowRebuild.cple_45 b1 b2 b3
  | cpleu_46 b1 b2 b3 => exact RowRebuild.cpleu_46 b1 b2 b3
  | cpleu_47 b1 b2 b3 => exact RowRebuild.cpleu_47 b1 b2 b3
  | cpgt_48 b1 b2 b3 => exact RowRebuild.cpgt_48 b1 b2 b3
  | cpgt_49 b1 b2 b3 => exact RowRebuild.cpgt_49 b1 b2 b3
  | cpgtu_4a b1 b2 b3 => exact RowRebuild.cpgtu_4a b1 b2 b3
  | cpgtu_4b b1 b2 b3 => exact RowRebuild.cpgtu_4b b1 b2 b3
  | cpge_4c b1 b2 b3 => exact RowRebuild.cpge_4c b1 b2 b3
  | cpge_4d b1 b2 b3 => exact RowRebuild.cpge_4d b1 b2 b3
  | cpgeu_4e b1 b2 b3 => exact RowRebuild.cpgeu_4e b1 b2 b3
  | cpgeu_4f b1 b2 b3 => exact RowRebuild.cpgeu_4f b1 b2 b3
  | aslt_50 b1 b2 b3 => exact RowRebuild.aslt_50 b1 b2 b3
  | aslt_51 b1 b2 b3 => exact RowRebuild.aslt_51 b1 b2 b3
  | asltu_52 b1 b2 b3 => exact RowRebuild.asltu_52 b1 b2 b3
  | asltu_53 b1 b2 b3 => exact RowRebuild.asltu_53 b1 b2 b3
  | asle_54 b1 b2 b3 => exact RowRebuild.asle_54 b1 b2 b3
  | asle_55 b1 b2 b3 => exact RowRebuild.asle_55 b1 b2 b3
  | asleu_56 b1 b2 b3 => exact RowRebuild.asleu_56 b1 b2 b3
  | asleu_57 b1 b2 b3 => exact RowRebuild.asleu_57 b1 b2 b3
  | asgt_58 b1 b2 b3 => exact RowRebuild.asgt_58 b1 b2 b3
  | asgt_59 b1 b2 b3 => exact RowRebuild.asgt_59 b1 b2 b3
  | asgtu_5a b1 b2 b3 => exact RowRebuild.asgtu_5a b1 b2 b3
  | asgtu_5b b1 b2 b3 => exact RowRebuild.asgtu_5b b1 b2 b3
  | asge_5c b1 b2 b3 => exact RowRebuild.asge_5c b1 b2 b3
  | asge_5d b1 b2 b3 => exact RowRebuild.asge_5d b1 b2 b3
  | asgeu_5e b1 b2 b3 => exact RowRebuild.asgeu_5e b1 b2 b3
  | asgeu_5f b1 b2 b3 => exact RowRebuild.asgeu_5f b1 b2 b3
  | cpeq_60 b1 b2 b3 => exact RowRebuild.cpeq_60 b1 b2 b3
  | cpeq_61 b1 b2 b3 => exact RowRebuild.cpeq_61 b1 b2 b3
  | cpneq_62 b1 b2 b3 => exact RowRebuild.cpneq_62 b1 b2 b3
  | cpneq_63 b1 b2 b3 => exact RowRebuild.cpneq_63 b1 b2 b3
  | mul_64 b1 b2 b3 => exact RowRebuild.mul_64 b1 b2 b3
  | mul_65 b1 b2 b3 => exact RowRebuild.mul_65 b1 b2 b3
  | mull_66 b1 b2 b3 => exact RowRebuild.mull_66 b1 b2 b3
  | mull_67 b1 b2 b3 => exact RowRebuild.mull_67 b1 b2 b3
  | div0_68 b1 b2 b3 => exact RowRebuild.div0_68 b1 b2 b3
  | div0_69 b1 b2 b3 => exact RowRebuild.div0_69 b1 b2 b3
  | div_6a b1 b2 b3 => exact RowRebuild.div_6a b1 b2 b3
  | div_6b b1 b2 b3 => exact RowRebuild.div_6b b1 b2 b3
  | divl_6c b1 b2 b3 => exact RowRebuild.divl_6c b1 b2 b3
  | divl_6d b1 b2 b3 => exact RowRebuild.divl_6d b1 b2 b3
  | divrem_6e b1 b2 b3 => exact RowRebuild.divrem_6e b1 b2 b3
  | divrem_6f b1 b2 b3 => exact RowRebuild.divrem_6f b1 b2 b3
  | aseq_70 b1 b2 b3 => exact RowRebuild.aseq_70 b1 b2 b3
  | aseq_71 b1 b2 b3 => exact RowRebuild.aseq_71 b1 b2 b3
  | asneq_72 b1 b2 b3 => exact RowRebuild.asneq_72 b1 b2 b3
  | asneq_73 b1 b2 b3 => exact RowRebuild.asneq_73 b1 b2 b3
  | mulu_74 b1 b2 b3 => exact RowRebuild.mulu_74 b1 b2 b3
  | mulu_75 b1 b2 b3 => exact RowRebuild.mulu_75 b1 b2 b3
  | inhw_78 b1 b2 b3 => exact RowRebuild.inhw_78 b1 b2 b3
  | inhw_79 b1 b2 b3 => exact RowRebuild.inhw_79 b1 b2 b3
  | extract_7a b1 b2 b3 => exact RowRebuild.extract_7a b1 b2 b3
  | extract_7b b1 b2 b3 => exact RowRebuild.extract_7b b1 b2 b3
  | exhw_7c b1 b2 b3 => exact RowRebuild.exhw_7c b1 b2 b3
  | exhw_7d b1 b2 b3 => exact RowRebuild.exhw_7d b1 b2 b3
  | exhws_7e b1 b2 b3 => exact RowRebuild.exhws_7e b1 b2 b3
  | sll_80 b1 b2 b3 => exact RowRebuild.sll_80 b1 b2 b3
  | sll_81 b1 b2 b3 => exact RowRebuild.sll_81 b1 b2 b3
  | srl_82 b1 b2 b3 => exact RowRebuild.srl_82 b1 b2 b3
  | srl_83 b1 b2 b3 => exact RowRebuild.srl_83 b1 b2 b3
  | sra_86 b1 b2 b3 => exact RowRebuild.sra_86 b1 b2 b3
  | sra_87 b1 b2 b3 => exact RowRebuild.sra_87 b1 b2 b3
  | iret_88 b1 b2 b3 => exact RowRebuild.iret_88 b1 b2 b3
  | halt_89 b1 b2 b3 => exact RowRebuild.halt_89 b1 b2 b3
  | iretinv_8c b1 b2 b3 => exact RowRebuild.iretinv_8c b1 b2 b3
  | and_90 b1 b2 b3 => exact RowRebuild.and_90 b1 b2 b3
  | and_91 b1 b2 b3 => exact RowRebuild.and_91 b1 b2 b3
  | or_92 b1 b2 b3 => exact RowRebuild.or_92 b1 b2 b3
  | or_93 b1 b2 b3 => exact RowRebuild.or_93 b1 b2 b3
  | xor_94 b1 b2 b3 => exact RowRebuild.xor_94 b1 b2 b3
  | xor_95 b1 b2 b3 => exact RowRebuild.xor_95 b1 b2 b3
  | xnor_96 b1 b2 b3 => exact RowRebuild.xnor_96 b1 b2 b3
  | xnor_97 b1 b2 b3 => exact RowRebuild.xnor_97 b1 b2 b3
  | nor_98 b1 b2 b3 => exact RowRebuild.nor_98 b1 b2 b3
  | nor_99 b1 b2 b3 => exact RowRebuild.nor_99 b1 b2 b3
  | nand_9a b1 b2 b3 => exact RowRebuild.nand_9a b1 b2 b3
  | nand_9b b1 b2 b3 => exact RowRebuild.nand_9b b1 b2 b3
  | andn_9c b1 b2 b3 => exact RowRebuild.andn_9c b1 b2 b3
  | andn_9d b1 b2 b3 => exact RowRebuild.andn_9d b1 b2 b3
  | setip_9e b1 b2 b3 => exact RowRebuild.setip_9e b1 b2 b3
  | inv_9f b1 b2 b3 => exact RowRebuild.inv_9f b1 b2 b3
  | jmp_a0 b1 b2 b3 => exact RowRebuild.jmp_a0 b1 b2 b3
  | jmp_a1 b1 b2 b3 => exact RowRebuild.jmp_a1 b1 b2 b3
  | jmpf_a4 b1 b2 b3 => exact RowRebuild.jmpf_a4 b1 b2 b3
  | jmpf_a5 b1 b2 b3 => exact RowRebuild.jmpf_a5 b1 b2 b3
  | call_a8 b1 b2 b3 => exact RowRebuild.call_a8 b1 b2 b3
  | call_a9 b1 b2 b3 => exact RowRebuild.call_a9 b1 b2 b3
  | orn_aa b1 b2 b3 => exact RowRebuild.orn_aa b1 b2 b3
  | orn_ab b1 b2 b3 => exact RowRebuild.orn_ab b1 b2 b3
  | jmpt_ac b1 b2 b3 => exact RowRebuild.jmpt_ac b1 b2 b3
  | jmpt_ad b1 b2 b3 => exact RowRebuild.jmpt_ad b1 b2 b3
  | jmpfdec_b4 b1 b2 b3 => exact RowRebuild.jmpfdec_b4 b1 b2 b3
  | jmpfdec_b5 b1 b2 b3 => exact RowRebuild.jmpfdec_b5 b1 b2 b3
  | mftlb_b6 b1 b2 b3 => exact RowRebuild.mftlb_b6 b1 b2 b3
  | mttlb_be b1 b2 b3 => exact RowRebuild.mttlb_be b1 b2 b3
  | jmpi_c0 b1 b2 b3 => exact RowRebuild.jmpi_c0 b1 b2 b3
  | jmpfi_c4 b1 b2 b3 => exact RowRebuild.jmpfi_c4 b1 b2 b3
  | mfsr_c6 b1 b2 b3 => exact RowRebuild.mfsr_c6 b1 b2 b3
  | calli_c8 b1 b2 b3 => exact RowRebuild.calli_c8 b1 b2 b3
  | jmpti_cc b1 b2 b3 => exact RowRebuild.jmpti_cc b1 b2 b3
  | mtsr_ce b1 b2 b3 => exact RowRebuild.mtsr_ce b1 b2 b3
  | emulate_d7 b1 b2 b3 => exact RowRebuild.emulate_d7 b1 b2 b3
  | fmac_d8 b1 b2 b3 => exact RowRebuild.fmac_d8 b1 b2 b3
  | dmac_d9 b1 b2 b3 => exact RowRebuild.dmac_d9 b1 b2 b3
  | fmsm_da b1 b2 b3 => exact RowRebuild.fmsm_da b1 b2 b3
  | dmsm_db b1 b2 b3 => exact RowRebuild.dmsm_db b1 b2 b3
  | multm_de b1 b2 b3 => exact RowRebuild.multm_de b1 b2 b3
  | multmu_df b1 b2 b3 => exact RowRebuild.multmu_df b1 b2 b3
  | multiply_e0 b1 b2 b3 => exact RowRebuild.multiply_e0 b1 b2 b3
  | divide_e1 b1 b2 b3 => exact RowRebuild.divide_e1 b1 b2 b3
  | multiplu_e2 b1 b2 b3 => exact RowRebuild.multiplu_e2 b1 b2 b3
  | dividu_e3 b1 b2 b3 => exact RowRebuild.dividu_e3 b1 b2 b3
  | convert_e4 b1 b2 b3 => exact RowRebuild.convert_e4 b1 b2 b3
  | sqrt_e5 b1 b2 b3 => exact RowRebuild.sqrt_e5 b1 b2 b3
  | class_e6 b1 b2 b3 => exact RowRebuild.class_e6 b1 b2 b3
  | mtacc_e8 b1 b2 b3 => exact RowRebuild.mtacc_e8 b1 b2 b3
  | mfacc_e9 b1 b2 b3 => exact RowRebuild.mfacc_e9 b1 b2 b3
  | feq_ea b1 b2 b3 => exact RowRebuild.feq_ea b1 b2 b3
  | deq_eb b1 b2 b3 => exact RowRebuild.deq_eb b1 b2 b3
  | fgt_ec b1 b2 b3 => exact RowRebuild.fgt_ec b1 b2 b3
  | dgt_ed b1 b2 b3 => exact RowRebuild.dgt_ed b1 b2 b3
  | fge_ee b1 b2 b3 => exact RowRebuild.fge_ee b1 b2 b3
  | dge_ef b1 b2 b3 => exact RowRebuild.dge_ef b1 b2 b3
  | fadd_f0 b1 b2 b3 => exact RowRebuild.fadd_f0 b1 b2 b3
  | dadd_f1 b1 b2 b3 => exact RowRebuild.dadd_f1 b1 b2 b3
  | fsub_f2 b1 b2 b3 => exact RowRebuild.fsub_f2 b1 b2 b3
  | dsub_f3 b1 b2 b3 => exact RowRebuild.dsub_f3 b1 b2 b3
  | fmul_f4 b1 b2 b3 => exact RowRebuild.fmul_f4 b1 b2 b3
  | dmul_f5 b1 b2 b3 => exact RowRebuild.dmul_f5 b1 b2 b3
  | fdiv_f6 b1 b2 b3 => exact RowRebuild.fdiv_f6 b1 b2 b3
  | ddiv_f7 b1 b2 b3 => exact RowRebuild.ddiv_f7 b1 b2 b3
  | fdmul_f9 b1 b2 b3 => exact RowRebuild.fdmul_f9 b1 b2 b3

end Sys2Proof.Laws
end

