-- ==== Sys2Proof/Tests/Slice0.lean ====
section
/-! SUPPORT. Tests and witnesses. The expected results are those of spec/95_test_vectors.md (named by
their group), of the encoding column of spec/opcode_table.json, or computed by hand from the rules.
The fixture Catalog is that of 95_test_vectors.md section 0. -/

/- Each kernel evaluation below would otherwise hold a thread of its own until all are done. -/
set_option Elab.async false

namespace Sys2Proof.Tests

open Sys2Proof.Machine

/-- `CATALOG_T` of 95_test_vectors.md section 0, first half. -/
def fixtureCatalogA : List CatalogEntry := [
  ⟨0x14, .any, "add", .arithAdd, .RRM⟩,
  ⟨0xF0, .any, "fadd", .arithAdd, .RRR⟩,
  ⟨0x03, .any, "const", .move, .RI16⟩,
  ⟨0xA8, .any, "call", .call, .RDISP⟩,
  ⟨0xA0, .any, "jmp", .jump, .DISP⟩,
  ⟨0x16, .any, "load", .load, .LDST⟩,
  ⟨0xC8, .any, "calli", .indirectCall, .ICALL⟩,
  ⟨0xE6, .any, "class", .unclassified, .RRI2⟩,
  ⟨0x08, .any, "clz", .unclassified, .CLZ⟩,
  ⟨0xE4, .any, "convert", .unclassified, .CVT6⟩,
  ⟨0x7E, .any, "exhws", .unclassified, .RCRA⟩,
  ⟨0xD9, .familyB, "dmac", .arithMul, .MAC⟩]

/-- `CATALOG_T` of 95_test_vectors.md section 0, second half. -/
def fixtureCatalogB : List CatalogEntry := [
  ⟨0x6F, .any, "pair13", .unclassified, .R1R3⟩,
  ⟨0xC0, .any, "jmpi", .indirectJump, .RB⟩,
  ⟨0xE9, .familyB, "mfacc", .move, .RC_I2I2⟩,
  ⟨0xE8, .familyB, "mtacc", .move, .RA_I2I2⟩,
  ⟨0xC6, .any, "mfsr", .move, .MFSR⟩,
  ⟨0xCE, .any, "mtsr", .move, .MTSR⟩,
  ⟨0x89, .any, "halt", .unclassified, .NONE⟩,
  ⟨0x70, .any, "aseq", .compare, .RRM⟩,
  ⟨0xDE, .familyA, "colA", .unclassified, .RRR⟩,
  ⟨0xDE, .familyB, "colB", .unclassified, .NONE⟩,
  ⟨0x1E, .any, "store", .store, .LDST⟩,
  ⟨0xAC, .any, "jmpt", .condJump, .RDISP⟩]

/-- The fixture parameters with a compatibility check. -/
def fixtureParams (c : Compat) : Params :=
  ⟨fixtureCatalogA ++ fixtureCatalogB, ⟨0x70, 0x40, 0x01, 0x01⟩, "nop", "calli", c, specLayout, 5⟩

/-- The gated check of the fixture. -/
def gatedT : Compat := .gated [("famA-", .familyA), ("famB-", .familyB)]

/-- A state with the fixture parameters under the default check, at address 0x1000. -/
def fixture : State :=
  { State.reset with params := fixtureParams (.byLabel true true), currentAddress := 0x1000 }

/-- The state after the step on the word `w`. -/
def after (s : State) (w : Nat) : Option State :=
  match step (s.withFetchWord 32 w) with
  | .next t => some t
  | .fault _ => none
  | .refused _ => none

/-- The text the step on `w` prints. -/
def textOf (s : State) (w : Nat) : Option String :=
  match (after s w).map State.text with
  | some (.driven t) => t
  | some .idle => none
  | none => none

/-- The target the step on `w` resolves. -/
def targetOf (s : State) (w : Nat) : Option Word :=
  match (after s w).map State.target with
  | some (.driven t) => t
  | some .idle => none
  | none => none

/-- The mnemonic and operands the step on `w` decodes, up to the arity. -/
def decodedOf (s : State) (w : Nat) : Option (String × InstrClass × List Operand) :=
  match (after s w).map State.result with
  | some (.driven (.ok d)) => some (d.mnemonic, d.cls, d.ops.live)
  | some (.driven (.err _)) => none
  | some .idle => none
  | none => none

/-- The result port after the step at `s`. -/
def resultAt (s : State) : Option (Port DecodeResult) :=
  match step s with
  | .next t => some t.result
  | .fault _ => none
  | .refused _ => none

/-- A register, an immediate and a displacement operand. -/
abbrev R (v : Word) : Operand := ⟨.register, v⟩
abbrev I (v : Word) : Operand := ⟨.immediate, v⟩
abbrev J (v : Word) : Operand := ⟨.jumpDisplacement, v⟩

/-! ## One or two vectors of each kind (95_test_vectors.md section 2) -/

theorem test_rrm_register : decodedOf fixture 0x14020304 = some ("add", .arithAdd, [R 2, R 3, R 4]) ∧
    textOf fixture 0x14020304 = some "add gr2 gr3 gr4" := by decide +kernel

theorem test_rrm_immediate : decodedOf fixture 0x14FFFFFF = some ("add", .arithAdd, [R 0xFF, R 0xFF, I 0xFF]) ∧
    textOf fixture 0x14FFFFFF = some "add lr128 lr128 0xff" := by decide +kernel

theorem test_rrr : decodedOf fixture 0xF00182FF = some ("fadd", .arithAdd, [R 1, R 0x82, R 0xFF]) ∧
    textOf fixture 0xF00182FF = some "fadd gr1 lr3 lr128" := by decide +kernel

theorem test_rrr_odd : decodedOf fixture 0xF0010101 = some ("fadd", .arithAdd, [R 1, R 1, R 1]) ∧
    textOf fixture 0xF0010101 = some "fadd gr1 gr1 gr1" := by decide +kernel

theorem test_ri16 : decodedOf fixture 0x03120534 = some ("const", .move, [R 5, I 0x1234]) ∧
    textOf fixture 0x03120534 = some "const gr5 0x1234" := by decide +kernel

theorem test_ri16_unsigned : decodedOf fixture 0x03FF80FF = some ("const", .move, [R 0x80, I 0xFFFF]) ∧
    textOf fixture 0x03FF80FF = some "const lr1 0xffff" := by decide +kernel

theorem test_rdisp_jump : decodedOf fixture 0xA8008004 = some ("call", .call, [R 0x80, J 0x10]) ∧
    textOf fixture 0xA8008004 = some "call lr1 0x1010" := by decide +kernel

theorem test_rdisp_negative_immediate : decodedOf fixture 0xA8FF05FF = some ("call", .call, [R 5, I 0xFFFFFFFC]) ∧
    textOf fixture 0xA8FF05FF = some "call gr5 -0x4" := by decide +kernel

theorem test_disp_jump : decodedOf fixture 0xA0FF00FF = some ("jmp", .jump, [J 0xFFFFFFFC]) ∧
    textOf fixture 0xA0FF00FF = some "jmp 0xffc" := by decide +kernel

theorem test_disp_immediate : decodedOf fixture 0xA0FE00FC = some ("jmp", .jump, [I 0xFFFFFBF0]) ∧
    textOf fixture 0xA0FE00FC = some "jmp -0x410" := by decide +kernel

theorem test_ldst_register : decodedOf fixture 0x167E0180 = some ("load", .load, [I 0, I 0x7E, R 1, R 0x80]) ∧
    textOf fixture 0x167E0180 = some "load 0x0 0x7e gr1 lr1" := by decide +kernel

theorem test_ldst_immediate : decodedOf fixture 0x16FF80FF = some ("load", .load, [I 1, I 0x7F, R 0x80, I 0xFF]) ∧
    textOf fixture 0x16FF80FF = some "load" := by decide +kernel

theorem test_icall : decodedOf fixture 0xC8FF8080 = some ("calli", .indirectCall, [R 0x80, R 0x80]) ∧
    textOf fixture 0xC8FF8080 = some "calli lr1 lr1" := by decide +kernel

theorem test_rri2 : decodedOf fixture 0xE60102FF = some ("class", .unclassified, [R 1, R 2, I 3]) ∧
    textOf fixture 0xE60102FF = some "class gr1 gr2 0x3" := by decide +kernel

theorem test_clz_register : decodedOf fixture 0x08029907 = some ("clz", .unclassified, [R 2, R 7]) ∧
    textOf fixture 0x08029907 = some "clz gr2 gr7" := by decide +kernel

theorem test_clz_immediate : decodedOf fixture 0x08039907 = some ("clz", .unclassified, [R 3, I 7]) ∧
    textOf fixture 0x08039907 = some "clz gr3 0x7" := by decide +kernel

theorem test_cvt6 : decodedOf fixture 0xE48182A6 = some ("convert", .unclassified, [R 0x81, R 0x82, I 1, I 2, I 1, I 2]) ∧
    textOf fixture 0xE48182A6 = some "convert lr2 lr3 0x1 0x2 0x1 0x2" := by decide +kernel

theorem test_cvt6_other_bits : decodedOf fixture 0xE401025B = some ("convert", .unclassified, [R 1, R 2, I 0, I 5, I 2, I 3]) ∧
    textOf fixture 0xE401025B = some "convert gr1 gr2 0x0 0x5 0x2 0x3" := by decide +kernel

theorem test_rcra : decodedOf fixture 0x7E80FF00 = some ("exhws", .unclassified, [R 0x80, R 0xFF]) ∧
    textOf fixture 0x7E80FF00 = some "exhws lr1 lr128" := by decide +kernel

theorem test_mac : decodedOf fixture 0xD9160500 = some ("dmac", .arithMul, [I 5, I 2, R 0x16, R 5]) ∧
    textOf fixture 0xD9160500 = some "dmac 0x5 0x2 gr22 gr5" := by decide +kernel

theorem test_r1r3 : decodedOf fixture 0x6F01FF03 = some ("pair13", .unclassified, [R 1, R 3]) ∧
    textOf fixture 0x6F01FF03 = some "pair13 gr1 gr3" := by decide +kernel

theorem test_rb : decodedOf fixture 0xC0FFFF80 = some ("jmpi", .indirectJump, [R 0x80]) ∧
    textOf fixture 0xC0FFFF80 = some "jmpi lr1" := by decide +kernel

theorem test_rc_i2i2 : decodedOf fixture 0xE905FFF1 = some ("mfacc", .move, [R 5, I 0, I 1]) ∧
    textOf fixture 0xE905FFF1 = some "mfacc" := by decide +kernel

theorem test_ra_i2i2 : decodedOf fixture 0xE8008507 = some ("mtacc", .move, [R 0x85, I 1, I 3]) ∧
    textOf fixture 0xE8008507 = some "mtacc" := by decide +kernel

theorem test_mfsr : decodedOf fixture 0xC60586FF = some ("mfsr", .move, [R 5, R 0x86]) ∧
    textOf fixture 0xC60586FF = some "mfsr gr5 lr7" := by decide +kernel

theorem test_mtsr : decodedOf fixture 0xCEFF8605 = some ("mtsr", .move, [R 0x86, R 5]) ∧
    textOf fixture 0xCEFF8605 = some "mtsr lr7 gr5" := by decide +kernel

theorem test_none : decodedOf fixture 0x89AABBCC = some ("halt", .unclassified, []) ∧
    textOf fixture 0x89AABBCC = some "halt" := by decide +kernel

theorem test_nop_literal : decodedOf fixture 0x70400101 = some ("nop", .nop, []) ∧
    textOf fixture 0x70400101 = some "nop" := by decide +kernel

theorem test_not_the_literal : decodedOf fixture 0x70400100 = some ("aseq", .compare, [R 0x40, R 1, R 0]) ∧
    textOf fixture 0x70400100 = some "aseq gr64 gr1 gr0" := by decide +kernel

theorem test_first_of_a_collision : decodedOf fixture 0xDE010203 = some ("colA", .unclassified, [R 1, R 2, R 3]) ∧
    textOf fixture 0xDE010203 = some "colA gr1 gr2 gr3" := by decide +kernel

/-! ## Targets, errors, gating, names, numbers, truncation (95_test_vectors.md sections 2 and 3) -/

theorem test_rdisp_target : targetOf fixture 0xA8008004 = some 0x1010 ∧
    targetOf fixture 0xA8018004 = none := by decide +kernel

theorem test_disp_target_wraps : targetOf { fixture with currentAddress := 0xFFFFFFF0 } 0xA07F00FF =
    some 0x0001FFEC ∧ targetOf { fixture with currentAddress := 0 } 0xA0FF00FF = some 0xFFFFFFFC := by
  decide +kernel

theorem test_misaligned_address : targetOf { fixture with currentAddress := 0x1003 } 0xAC020510 =
    some 0x1843 := by decide +kernel

theorem test_unresolvable_hand_built :
    resolveTarget 0x1000 ⟨"x", .jump, ⟨R 1, R 2, J 0x10, unusedOp, unusedOp, unusedOp⟩⟩ = none ∧
    resolveTarget 0x1000 ⟨"x", .jump, ⟨J 0x10, R 1, unusedOp, unusedOp, unusedOp, unusedOp⟩⟩ = none ∧
    resolveTarget 0x1000 ⟨"x", .jump, ⟨J 0x10, unusedOp, J 0x20, unusedOp, unusedOp, unusedOp⟩⟩ =
      some 0x1010 := by decide

theorem test_return_equivalent :
    isReturnEquivalent "calli" ⟨"calli", .indirectCall, applyRule specLayout .ICALL ⟨0xC8, 0, 0x80, 0x80⟩⟩ = true ∧
    isReturnEquivalent "calli" ⟨"calli", .indirectCall, applyRule specLayout .ICALL ⟨0xC8, 0, 0x81, 0x80⟩⟩ = false ∧
    isReturnEquivalent "calli" ⟨"CALLI", .indirectCall, applyRule specLayout .ICALL ⟨0xC8, 0, 0x80, 0x80⟩⟩ = false ∧
    isReturnEquivalent "calli" ⟨"mtsr", .move, applyRule specLayout .MTSR ⟨0xCE, 0, 0x80, 0x80⟩⟩ = false := by
  decide

/-- V-ERR: a short buffer, an absent sink, a 4-character variant; the variant is checked before the literal. -/
theorem test_invalid_input :
    resultAt { fixture.presentWord ⟨0x14, 2, 3, 4⟩ with len := 3 } = some (.driven (.err .invalidInput)) ∧
    resultAt { fixture.presentWord ⟨0x14, 2, 3, 4⟩ with sinkPresent := false } =
      some (.driven (.err .invalidInput)) ∧
    resultAt { fixture.presentWord ⟨0x70, 0x40, 1, 1⟩ with cpuVariant := some "abcd" } =
      some (.driven (.err .invalidInput)) := by decide +kernel

theorem test_unknown_opcode :
    resultAt (fixture.presentWord ⟨0xFF, 0, 0, 0⟩) = some (.driven (.err .unknownOpcode)) := by
  decide +kernel

/-- V-DISPATCH under the gated check. -/
theorem test_gated :
    decodeWith gatedT.admits (fixtureParams gatedT) true 4 ⟨0xDE, 1, 2, 3⟩ (some "famB-") true =
      .ok ⟨"colB", .unclassified, Slots.allUnused⟩ ∧
    decodeWith gatedT.admits (fixtureParams gatedT) true 4 ⟨0xDE, 1, 2, 3⟩ none true =
      .err .unknownOpcode ∧
    decodeWith gatedT.admits (fixtureParams gatedT) true 4 ⟨0xD9, 0x16, 5, 0⟩ (some "famA-") true =
      .err .unknownOpcode := by decide +kernel

/-- A check that answers for the absent variant and for one variant otherwise than for the rest (R110). -/
theorem test_listed_variants :
    let c : Compat := ⟨⟨[(none, true), (some "famB-", false)], .always true⟩, ⟨[], .always false⟩⟩
    c.admits .familyA none = true ∧ c.admits .familyA (some "famB-") = false ∧
    c.admits .familyA (some "famA-") = true ∧ c.admits .familyB none = false ∧
    c.admits .any (some "famB-") = true := by decide +kernel

/-- The (0, 0) row of the table of 93_implementation_defined.md G2: both third operands are registers. -/
theorem test_mode_bit_in_byte_zero :
    applyRule ⟨⟨0, 0⟩, ⟨2, 0⟩⟩ .RRM ⟨0x14, 1, 2, 3⟩ = ⟨R 1, R 2, R 3, unusedOp, unusedOp, unusedOp⟩ ∧
    applyRule ⟨⟨0, 0⟩, ⟨2, 0⟩⟩ .RRM ⟨0x14, 1, 2, 0x83⟩ = ⟨R 1, R 2, R 0x83, unusedOp, unusedOp, unusedOp⟩ := by
  decide

/-- The (3, 7) position of 92_eei_decisions.md D4, `b[3] >> 7`; and another pair of narrow ranges (D12):
bits 7 to 6 and 5 to 4 of 0xB1. -/
theorem test_other_layout :
    applyRule ⟨⟨3, 7⟩, ⟨6, 4⟩⟩ .CLZ ⟨8, 2, 0, 0x7F⟩ = ⟨R 2, R 0x7F, unusedOp, unusedOp, unusedOp, unusedOp⟩ ∧
    applyRule ⟨⟨3, 7⟩, ⟨6, 4⟩⟩ .CLZ ⟨8, 2, 0, 0x83⟩ = ⟨R 2, I 0x83, unusedOp, unusedOp, unusedOp, unusedOp⟩ ∧
    applyRule ⟨⟨3, 7⟩, ⟨6, 4⟩⟩ .RC_I2I2 ⟨0xE9, 5, 0, 0xB1⟩ = ⟨R 5, I 2, I 3, unusedOp, unusedOp, unusedOp⟩ := by
  decide

/-- Another VARIANT_MIN_LEN (D16): a variant of four characters passes where four are asked for. -/
theorem test_variant_min_len :
    resultAt ({ fixture with
        params := { fixture.params with variantMinLen := 4 }, cpuVariant := some "abcd" }.presentWord
      ⟨0x70, 0x40, 1, 1⟩) = some (.driven (.ok ⟨"nop", .nop, Slots.allUnused⟩)) ∧
    variantOk 4 (some "abc") = false := by decide +kernel

theorem test_register_names :
    regText 0 = some "gr0" ∧ regText 5 = some "gr5" ∧ regText 127 = some "gr127" ∧
    regText 128 = some "lr1" ∧ regText 133 = some "lr6" ∧ regText 255 = some "lr128" ∧
    regText 256 = none := by decide +kernel

theorem test_immediate_text :
    immText 0 = "0x0" ∧ immText 0xA = "0xa" ∧ immText 0x7FFFFFFF = "0x7fffffff" ∧
    immText 0xFFFFFFFF = "-0x1" ∧ immText 0x80000000 = "-0x80000000" := by decide +kernel

theorem test_truncation :
    truncText "fadd gr1 lr3 lr128" 19 = "fadd gr1 lr3 lr128" ∧
    truncText "fadd gr1 lr3 lr128" 18 = "fadd gr1 lr3 lr12" ∧
    truncText "fadd gr1 lr3 lr128" 9 = "fadd gr1" ∧ truncText "fadd gr1 lr3 lr128" 1 = "" ∧
    truncText "fadd gr1 lr3 lr128" 0 = "" := by decide +kernel

/-- V-SEXT. -/
theorem test_sign_extension :
    scaledDisp ⟨0, 0x7F, 0, 0xFF⟩ = 0x0001FFFC ∧ scaledDisp ⟨0, 0x80, 0, 0x00⟩ = 0xFFFE0000 ∧
    scaledDisp ⟨0, 0xFE, 0, 0xFF⟩ = 0xFFFFFBFC ∧ scaledDisp ⟨0, 0x01, 0, 0x00⟩ = 0x400 := by decide

/-- The first two lines of program P2: the sum wraps, the error leaves its line and the sweep goes on. -/
theorem test_sweep :
    (sweep [0xA0, 0x01, 0x00, 0x04, 0xFF, 0, 0, 0] { fixture with currentAddress := 0xFFFFFFF8 }).map
      (fun l => (l.address, l.text, l.target)) =
    [(0xFFFFFFF8, .driven (some "jmp 0x408"), .driven (some 0x408)), (0xFFFFFFFC, .idle, .idle)] := by
  decide +kernel

/-! ## Words of the opcode table, written out from its encoding column, at least one of each family -/

theorem test_word_constn : decodeTableWord 32 0b00000001000100100000010100110100 = some (.constn_01 0x12 0x05 0x34) := by decide +kernel

theorem test_word_mfsr : decodeTableWord 32 0b11000110000001011000011011111111 = some (.mfsr_c6 0x05 0x86 0xFF) := by decide +kernel

theorem test_word_mttlb : decodeTableWord 32 0b10111110111111110000011000000101 = some (.mttlb_be 0xFF 0x06 0x05) := by decide +kernel

theorem test_word_mtacc : decodeTableWord 32 0b11101000000000001000010100000111 = some (.mtacc_e8 0x00 0x85 0x07) := by decide +kernel

theorem test_word_storem : decodeTableWord 32 0b00111111100000010000001000000011 = some (.storem_3f 0x81 0x02 0x03) := by decide +kernel

theorem test_word_subrcu : decodeTableWord 32 0b00111010000000010000001000000011 = some (.subrcu_3a 0x01 0x02 0x03) := by decide +kernel

theorem test_word_divrem : decodeTableWord 32 0b01101111000000010000001000000011 = some (.divrem_6f 0x01 0x02 0x03) := by decide +kernel

theorem test_word_multiplu : decodeTableWord 32 0b11100010000000010000001000000011 = some (.multiplu_e2 0x01 0x02 0x03) := by decide +kernel

theorem test_word_cpneq : decodeTableWord 32 0b01100011000000010000001000000011 = some (.cpneq_63 0x01 0x02 0x03) := by decide +kernel

theorem test_word_asgeu : decodeTableWord 32 0b01011110000000010000001000000011 = some (.asgeu_5e 0x01 0x02 0x03) := by decide +kernel

theorem test_word_xnor : decodeTableWord 32 0b10010110000000010000001000000011 = some (.xnor_96 0x01 0x02 0x03) := by decide +kernel

theorem test_word_orn : decodeTableWord 32 0b10101011000000010000001000000011 = some (.orn_ab 0x01 0x02 0x03) := by decide +kernel

theorem test_word_sra : decodeTableWord 32 0b10000111000000010000001000000011 = some (.sra_87 0x01 0x02 0x03) := by decide +kernel

theorem test_word_exhws : decodeTableWord 32 0b01111110100000001111111100000000 = some (.exhws_7e 0x80 0xFF 0x00) := by decide +kernel

theorem test_word_jmpfdec : decodeTableWord 32 0b10110101000000100000010100010000 = some (.jmpfdec_b5 0x02 0x05 0x10) := by decide +kernel

theorem test_word_jmpi : decodeTableWord 32 0b11000000111111111111111110000000 = some (.jmpi_c0 0xFF 0xFF 0x80) := by decide +kernel

theorem test_word_iretinv : decodeTableWord 32 0b10001100000000010000001000000011 = some (.iretinv_8c 0x01 0x02 0x03) := by decide +kernel

theorem test_word_emulate : decodeTableWord 32 0b11010111000000010000001000000011 = some (.emulate_d7 0x01 0x02 0x03) := by decide +kernel

theorem test_word_dmsm : decodeTableWord 32 0b11011011000101100000010100000000 = some (.dmsm_db 0x16 0x05 0x00) := by decide +kernel

theorem test_word_sqrt : decodeTableWord 32 0b11100101000000010000001000000011 = some (.sqrt_e5 0x01 0x02 0x03) := by decide +kernel

theorem test_word_ddiv : decodeTableWord 32 0b11110111000000010000001000000011 = some (.ddiv_f7 0x01 0x02 0x03) := by decide +kernel

/-- A word under another Catalog: rows 0 and 2 to 20 take their entry from it. -/
theorem test_word_generic :
    decodeWord (fixtureParams (.byLabel true true)) none ⟨0x6F, 1, 2, 3⟩ =
      .ok (.anyR1R3 ⟨0x6F, .any, "pair13", .unclassified⟩ 1 2 3) ∧
    decodeWord (fixtureParams (.byLabel true true)) none ⟨0x14, 1, 2, 3⟩ = .ok (.add_14 1 2 3) := by
  constructor <;> rfl

/-! ## Ill-formed terms, one for each check of WellFormed -/

theorem test_ill_formed_attested : (Instr.attested_14 .any "add" .arithAdd 0 0 0).wellFormed = false := by
  decide +kernel

theorem test_ill_formed_generic_attested :
    (Instr.anyRRM ⟨0x14, .any, "sum", .arithAdd⟩ 0 0 0).wellFormed = false := by decide +kernel

theorem test_ill_formed_generic_named :
    ([
      .anyRRM ⟨0x0a, .any, "exbyte", .unclassified⟩ 0 0 0,
      .anyRRR ⟨0x9e, .any, "setip", .unclassified⟩ 0 0 0,
      .anyRI16 ⟨0x01, .any, "constn", .move⟩ 0 0 0,
      .anyRDISP ⟨0xa4, .any, "jmpf", .condJump⟩ 0 0 0,
      .anyDISP ⟨0xa0, .any, "jmp", .jump⟩ 0 0 0,
      .anyLDST ⟨0x06, .any, "loadl", .load⟩ 0 0 0,
      .anyICALL ⟨0xbe, .any, "mttlb", .move⟩ 0 0 0,
      .anyRRI2 ⟨0xe5, .any, "sqrt", .unclassified⟩ 0 0 0,
      .anyCLZ ⟨0x08, .any, "clz", .unclassified⟩ 0 0 0,
      .anyCVT6 ⟨0xe4, .any, "convert", .unclassified⟩ 0 0 0,
      .anyRCRA ⟨0x7e, .any, "exhws", .unclassified⟩ 0 0 0,
      .anyMAC ⟨0xd8, .familyB, "fmac", .arithMul⟩ 0 0 0,
      .anyRB ⟨0xc0, .any, "jmpi", .indirectJump⟩ 0 0 0,
      .anyRC_I2I2 ⟨0xe9, .familyB, "mfacc", .move⟩ 0 0 0,
      .anyRA_I2I2 ⟨0xe8, .familyB, "mtacc", .move⟩ 0 0 0,
      .anyMFSR ⟨0xc6, .any, "mfsr", .move⟩ 0 0 0,
      .anyMTSR ⟨0xce, .any, "mtsr", .move⟩ 0 0 0,
      .anyNONE ⟨0x88, .any, "iret", .ret⟩ 0 0 0] : List Instr).any (fun i => i.wellFormed) = false := by
  decide +kernel

/-! ## Witnesses: states and operands that meet the hypotheses of the statements -/

/-- A fixture state whose buffer holds a word. -/
def holding (b : Bytes4) : State := fixture.presentWord b

theorem valid_inputs (p : Params) (n : Nat) (h : 4 ≤ n) : inputsValid p true n none true :=
  ⟨rfl, h, rfl, by simp⟩

/-- ArityIsTheFirstUnusedSlot: an index below the arity, and the largest one of a full shape. -/
theorem witness_arity : (0 : Fin 6).val < (applyRule specLayout .RB ⟨0, 0, 0, 1⟩).arity ∧
    (5 : Fin 6).val < (applyRule specLayout .CVT6 ⟨0, 0, 0, 1⟩).arity := by decide

/-- TaggerWritesOneSlot: another slot than the one written. -/
theorem witness_other_slot : (5 : Fin 6) ≠ 0 ∧ (0 : Fin 6) ≠ 5 := by decide

/-- DispatcherTakesTheFirstMatch, first clause: entry 20 wins over entry 21. -/
theorem witness_first_match :
    inputsValid (fixtureParams (.byLabel true true)) true 4 none true ∧ (⟨0xDE, 1, 2, 3⟩ : Bytes4) ≠ ⟨0x70, 0x40, 1, 1⟩ ∧
    ∃ before e after, (fixtureParams (.byLabel true true)).catalog = before ++ e :: after ∧
      (∀ x ∈ before, ¬ (x.opcode = 0xDE ∧ (Compat.byLabel true true).admits x.app none = true)) ∧
      e.opcode = 0xDE ∧ (Compat.byLabel true true).admits e.app none = true :=
  ⟨valid_inputs _ 4 (by decide), by decide, fixtureCatalogA ++ fixtureCatalogB.take 8,
    ⟨0xDE, .familyA, "colA", .unclassified, .RRR⟩, fixtureCatalogB.drop 9, by rfl,
    by decide +kernel, rfl, rfl⟩

/-- DispatcherTakesTheFirstMatch, second clause: no entry has opcode byte 0xFF. -/
theorem witness_no_match : ∀ x ∈ (fixtureParams (.byLabel true true)).catalog,
    ¬ (x.opcode = 0xFF ∧ (Compat.byLabel true true).admits x.app none = true) := by decide +kernel

/-- RomViewHoldsTheScan: at 0xDE the ROM holds the first of the two colliding entries, at 0xFF none. -/
theorem witness_rom :
    (romView (Compat.byLabel true true).admits (fixtureParams (.byLabel true true)).catalog none)[0xDE]? =
      some (some ⟨0xDE, .familyA, "colA", .unclassified, .RRR⟩) ∧
    (romView (Compat.byLabel true true).admits (fixtureParams (.byLabel true true)).catalog none)[0xFF]? =
      some none := by decide +kernel

/-- NoOpLiteralIsCheckedFirst: valid inputs at the shortest buffer and variant, and a word one bit off. -/
theorem witness_literal : inputsValid (fixtureParams (.byLabel true true)) true 4 (some "abcde") true ∧
    Bytes4.toWord ⟨0x70, 0x40, 1, 0⟩ ≠ Bytes4.toWord ⟨0x70, 0x40, 1, 1⟩ :=
  ⟨⟨rfl, by decide, rfl, by intro v h; cases h; decide⟩, by decide⟩

/-- DecodeResultsAreWellFormed, LaterEntriesNeverMatter, DecodedInstructionsAlwaysRender and
TargetsKeepTheAddressResidue: a result of decode that resolves. -/
theorem witness_decoded_target :
    decodeWith (Compat.byLabel true true).admits (fixtureParams (.byLabel true true)) true 4
      ⟨0xA0, 0x01, 0x00, 0x04⟩ none true = .ok ⟨"jmp", .jump, applyRule specLayout .DISP ⟨0xA0, 0x01, 0x00, 0x04⟩⟩ ∧
    resolveTarget 0x1000 ⟨"jmp", .jump, applyRule specLayout .DISP ⟨0xA0, 0x01, 0x00, 0x04⟩⟩ = some 0x1410 := by
  decide +kernel

/-- LaterEntriesNeverMatter, second clause: two entries of one opcode byte and applicability. -/
theorem witness_duplicate : attestedEntry.opcode = (0x14 : Byte) ∧
    (⟨0x14, .any, "other", .move, .RRR⟩ : CatalogEntry).opcode = attestedEntry.opcode ∧
    (⟨0x14, .any, "other", .move, .RRR⟩ : CatalogEntry).app = attestedEntry.app := by decide

/-- CompatibilityOfEntries and StepIsDecodeOfTheInputs: a check that is true for any-entries and, for those
of family A, reads whether a variant is given at all. -/
theorem witness_check :
    (∀ v : Option String, (fun (app : Applicability) (v : Option String) => app == .any || v == none) .any v = true) ∧
    ∀ app, (fun (app : Applicability) (v : Option String) => app == .any || v == none) app none =
      (Compat.byLabel true true).admits app none :=
  ⟨fun _ => rfl, fun app => by cases app <;> rfl⟩

/-- VariantDoesNotGateTheDispatch: a check that does not read the variant, and two valid variants. -/
theorem witness_ungated : (∀ app v v', (Compat.byLabel true false).admits app v =
      (Compat.byLabel true false).admits app v') ∧
    (∀ n, some "famA-" = some n → 5 ≤ n.length) ∧ (∀ n, (none : Option String) = some n → 5 ≤ n.length) :=
  ⟨by intro app v v'; cases app <;> rfl, by intro n h; cases h; decide, by simp⟩

/-- AttestedBuffersDecode, under both clauses: the parameters at reset and the fixture meet the spec's constraints. -/
theorem witness_meets_spec : paramsMeetSpec resetParams = true ∧
    resetParams.layout.mSel = specLayout.mSel ∧ (0x83 : Byte) ∈ [(0x03 : Byte), 0x83] ∧
    paramsMeetSpec (fixtureParams (.byLabel true true)) = true := by decide +kernel

/-- ReturnEquivalentNeverResolves: the fixture gives `calli` to no entry of kind RDISP, and C8 00 80 80 is it. -/
theorem witness_return_equivalent :
    (∀ e ∈ (fixtureParams (.byLabel true true)).catalog, e.mnemonic = "calli" → e.rule ≠ .RDISP) ∧
    decodeWith (Compat.byLabel true true).admits (fixtureParams (.byLabel true true)) true 4
      ⟨0xC8, 0x00, 0x80, 0x80⟩ none true =
        .ok ⟨"calli", .indirectCall, applyRule specLayout .ICALL ⟨0xC8, 0x00, 0x80, 0x80⟩⟩ ∧
    isReturnEquivalent "calli" ⟨"calli", .indirectCall, applyRule specLayout .ICALL ⟨0xC8, 0x00, 0x80, 0x80⟩⟩ = true := by
  decide +kernel

/-- Why that statement has its premise: under a Catalog that gives the indirect-call mnemonic to kind
RDISP a word is return-equivalent and has a target, against the letter of R127 (NOTES.md). -/
theorem return_equivalent_with_target :
    isReturnEquivalent "calli" ⟨"calli", .indirectCall, applyRule specLayout .RDISP ⟨0xA8, 0x00, 0x80, 0x20⟩⟩ = true ∧
    resolveTarget 0x1000 ⟨"calli", .indirectCall, applyRule specLayout .RDISP ⟨0xA8, 0x00, 0x80, 0x20⟩⟩ =
      some 0x1080 := by decide

/-- RegisterNames: the boundary values of its three clauses. RegisterNamesAreDistinct: a name. -/
theorem witness_register_ranges : (127 : Word).toNat ≤ 127 ∧ 128 ≤ (128 : Word).toNat ∧
    (255 : Word).toNat ≤ 255 ∧ 256 ≤ (256 : Word).toNat ∧ regText 255 = some "lr128" := by decide +kernel

/-- NumberTextReadsBack: the ends of the two ranges of the sign, and the number whose text begins with 0. -/
theorem witness_number_signs : (0x80000000 : Word).toInt < 0 ∧ (0xFFFFFFFF : Word).toInt < 0 ∧
    0 ≤ (0 : Word).toInt ∧ 0 ≤ (0x7FFFFFFF : Word).toInt ∧ (hexText 0).toList.head? = some '0' ∧
    (decText 0).toList.head? = some '0' := by decide +kernel

/-- TextNeverExceedsTheLimit: a text, with a limit that cuts it and one that does not. -/
theorem witness_limits :
    render 9 0 ⟨"fadd", .arithAdd, applyRule specLayout .RRR ⟨0xF0, 1, 0x82, 0xFF⟩⟩ = some "fadd gr1" ∧
    render 19 0 ⟨"fadd", .arithAdd, applyRule specLayout .RRR ⟨0xF0, 1, 0x82, 0xFF⟩⟩ = some "fadd gr1 lr3 lr128" := by
  decide +kernel

/-- TextOfTheSourceShapes and TextOfTheLongShapesAndOfAnyOther: each recognised shape is a kind's, its
registers have names, and a shape with no format line. -/
theorem witness_shapes :
    [(applyRule specLayout .RB ⟨0, 0, 0, 5⟩).shape, (applyRule specLayout .DISP ⟨0, 0, 0, 4⟩).shape,
      (applyRule specLayout .DISP ⟨0, 1, 0, 4⟩).shape, (applyRule specLayout .ICALL ⟨0, 0, 5, 6⟩).shape,
      (applyRule specLayout .RI16 ⟨0, 0, 5, 6⟩).shape, (applyRule specLayout .RDISP ⟨0, 0, 5, 6⟩).shape,
      (applyRule specLayout .RRR ⟨0, 1, 2, 3⟩).shape, (applyRule specLayout .RRI2 ⟨0, 1, 2, 3⟩).shape,
      (applyRule specLayout .LDST ⟨0, 0, 5, 6⟩).shape, (applyRule specLayout .CVT6 ⟨0, 1, 2, 3⟩).shape] = recognisedShapes ∧
    regText 5 = some "gr5" ∧ regText 6 = some "gr6" ∧ regText 1 = some "gr1" ∧ regText 2 = some "gr2" ∧
    regText 3 = some "gr3" ∧ (applyRule specLayout .LDST ⟨0, 1, 5, 6⟩).shape ∉ recognisedShapes := by decide +kernel

/-- AddressReadOnlyForDisplacements: a shape that is neither. -/
theorem witness_no_displacement : (applyRule specLayout .RRR ⟨0, 1, 2, 3⟩).shape ≠ [.jumpDisplacement] ∧
    (applyRule specLayout .RRR ⟨0, 1, 2, 3⟩).shape ≠ [.register, .jumpDisplacement] := by decide

/-- ConsumersReadOnlyTheShapesSlots: two instructions that differ in class and in a later slot. -/
theorem witness_same_live_slots :
    (⟨R 1, unusedOp, R 7, unusedOp, unusedOp, unusedOp⟩ : Slots).shape =
      (⟨R 1, unusedOp, unusedOp, unusedOp, unusedOp, J 8⟩ : Slots).shape ∧
    ∀ i : Fin 6, i.val < (⟨R 1, unusedOp, R 7, unusedOp, unusedOp, unusedOp⟩ : Slots).arity →
      ((⟨R 1, unusedOp, R 7, unusedOp, unusedOp, unusedOp⟩ : Slots).get i).value =
        ((⟨R 1, unusedOp, unusedOp, unusedOp, unusedOp, J 8⟩ : Slots).get i).value := by decide

/-- StepRunsTheDecodedInstruction and StepIsDecodeOfTheInputs: a decode request that decodes, and one
that does not. -/
theorem witness_decode_request :
    (holding ⟨0xF0, 1, 2, 3⟩).request = .decode ∧
    inputsValid (holding ⟨0xF0, 1, 2, 3⟩).params (holding ⟨0xF0, 1, 2, 3⟩).bufPresent (holding ⟨0xF0, 1, 2, 3⟩).len
      (holding ⟨0xF0, 1, 2, 3⟩).cpuVariant (holding ⟨0xF0, 1, 2, 3⟩).sinkPresent ∧
    decodeWord fixture.params none ⟨0xF0, 1, 2, 3⟩ = .ok (.fadd_f0 1 2 3) ∧
    decodeWord fixture.params none ⟨0xFF, 1, 2, 3⟩ = .error .unknownOpcode ∧
    decodeWord fixture.params none (Bytes4.ofWord (BitVec.ofNat 32 (0xF0010203 % 2 ^ 32))) =
      .ok (.fadd_f0 1 2 3) :=
  ⟨rfl, ⟨rfl, by decide, rfl, by intro v h; cases h⟩, rfl, rfl, rfl⟩

/-- EveryStepCompletes and ConsumersTakeAnyInstruction: a consume request of a hand-built instruction,
which a register above 255 leaves without a text. -/
theorem witness_consume_request :
    ∃ t, step { fixture with request := .consume ⟨"x", .move, ⟨R 256, unusedOp, unusedOp, unusedOp,
        unusedOp, unusedOp⟩⟩ } = .next t ∧ t.text = .driven none ∧ t.target = .driven none :=
  ⟨_, rfl, by decide +kernel, by decide +kernel⟩

/-- BlockIsStateless: two states that differ in the output ports only, and their steps. -/
theorem witness_same_inputs :
    State.sameInputs (holding ⟨0xF0, 1, 2, 3⟩) { holding ⟨0xF0, 1, 2, 3⟩ with target := .driven none } ∧
    (∃ t, step (holding ⟨0xF0, 1, 2, 3⟩) = .next t) ∧
    ∃ t, step { holding ⟨0xF0, 1, 2, 3⟩ with target := .driven none } = .next t :=
  ⟨⟨rfl, rfl, rfl, rfl, rfl, rfl, rfl, rfl, rfl⟩, ⟨_, rfl⟩, ⟨_, rfl⟩⟩

/-- ErrorsRecordNothing and SecondStepGivesTheSame: a step that answers an error. -/
theorem witness_error_step : ∃ t, step (holding ⟨0xFF, 1, 2, 3⟩) = .next t ∧
    t.result = .driven (.err .unknownOpcode) := ⟨_, rfl, rfl⟩

/-- StepKeepsTheInvariant: the reset state meets it and steps. -/
theorem witness_invariant : State.reset.Inv ∧ ∃ t, step State.reset = .next t :=
  ⟨⟨by decide +kernel, trivial⟩, ⟨_, rfl⟩⟩

/-- DecodeOfEncodeIsTheInstruction: a row of each sort, well formed and selected. -/
theorem witness_selected :
    (Instr.fadd_f0 1 2 3).wellFormed = true ∧ selects resetParams none (.fadd_f0 1 2 3) = true ∧
    (Instr.attested_14 .any "add" .unclassified 1 2 3).wellFormed = true ∧
    selects resetParams none (.attested_14 .any "add" .unclassified 1 2 3) = true ∧
    (Instr.anyR1R3 ⟨0x6F, .any, "pair13", .unclassified⟩ 1 2 3).wellFormed = true ∧
    selects fixture.params none (.anyR1R3 ⟨0x6F, .any, "pair13", .unclassified⟩ 1 2 3) = true ∧
    selects resetParams none .nopLiteral = true := by decide +kernel

/-- EncodeOfDecodeIsTheWord: a word that decodes; MeaningCopiesItsEntry: an instruction with an entry. -/
theorem witness_decoded_word : decodeWord resetParams none ⟨0xF0, 1, 2, 3⟩ = .ok (.fadd_f0 1 2 3) ∧
    (Instr.fadd_f0 1 2 3).entry = some ⟨0xf0, .any, "fadd", .arithAdd, .RRR⟩ := ⟨rfl, rfl⟩

/-- SweepAnswersEachGroup: the first and the last group of two. -/
theorem witness_groups : ([1, 2, 3, 4, 5, 6, 7, 8] : List Byte)[4 * 0]? = some 1 ∧
    ([1, 2, 3, 4, 5, 6, 7, 8] : List Byte)[4 * 1 + 3]? = some 8 := by decide

end Sys2Proof.Tests
end

section
/-! The operands of a result of `decode` (R30): the values the rules assemble, in the words of the claims,
and the slots they fill. -/

namespace Sys2Proof.Machine

/-! ### Values assembled from the operand bytes -/

/-- `IMM16` is byte 1 followed by byte 3 (R80). -/
theorem imm16_eq_append (b : Bytes4) : imm16 b = (b.b1 ++ b.b3).setWidth 32 := by
  have bytes : (b.b1.setWidth 16 <<< 8) ||| b.b3.setWidth 16 = b.b1 ++ b.b3 := by
    apply BitVec.eq_of_getLsbD_eq
    intro i hi
    simp only [BitVec.getLsbD_or, BitVec.getLsbD_shiftLeft, BitVec.getLsbD_setWidth,
      BitVec.getLsbD_append]
    interval_cases i <;> simp
  rw [imm16, bytes]

/-- The raw displacement field is byte 1, byte 3 and two zero bits (R79). -/
theorem rawDisp_eq_append (b : Bytes4) : rawDisp b = b.b1 ++ b.b3 ++ (0 : BitVec 2) := by
  apply BitVec.eq_of_getLsbD_eq
  intro i hi
  simp only [rawDisp, BitVec.getLsbD_or, BitVec.getLsbD_shiftLeft, BitVec.getLsbD_setWidth,
    BitVec.getLsbD_append]
  interval_cases i <;> simp

/-- Testing bit 17 with its mask and setting the high bits sign-extends an 18-bit value (R79). -/
theorem setHighBits_eq_signExtend (x : BitVec 18) :
    (if x.setWidth 32 &&& 0x00020000 ≠ 0 then x.setWidth 32 ||| 0xFFFC0000 else x.setWidth 32) =
      x.signExtend 32 := by
  have mask : x.setWidth 32 &&& 0x00020000 = if x.msb then BitVec.twoPow 32 17 else 0 := by
    rw [show (0x00020000 : Word) = BitVec.twoPow 32 17 from rfl, BitVec.and_twoPow]
    simp [BitVec.msb_eq_getLsbD_last]
  rw [mask]
  cases hm : x.msb
  · simp [BitVec.signExtend_eq_setWidth_of_msb_false hm]
  · have nonzero : BitVec.twoPow 32 17 ≠ 0 := by decide
    rw [if_pos rfl, if_pos nonzero]
    apply BitVec.eq_of_getLsbD_eq
    intro i hi
    simp only [BitVec.getLsbD_or, BitVec.getLsbD_setWidth, BitVec.getLsbD_signExtend, hm]
    rw [BitVec.msb_eq_getLsbD_last] at hm
    interval_cases i <;> simp_all

/-- The scaled displacement is the sign-extended field (R79). -/
theorem scaledDisp_eq_sext18 (b : Bytes4) : scaledDisp b = sext18 b.b1 b.b3 := by
  rw [sext18, ← rawDisp_eq_append]
  exact setHighBits_eq_signExtend (rawDisp b)

/-- A sign-extended field is a multiple of 4 in the range of R30 (e). -/
theorem sext18_isDisplacement (b1 b3 : Byte) : isDisplacement (sext18 b1 b3) = true := by
  have hn : (b1 ++ b3 ++ (0 : BitVec 2)).toNat = 4 * (b1 ++ b3).toNat := by
    rw [BitVec.toNat_append (b1 ++ b3)]; simp [Nat.shiftLeft_eq, Nat.mul_comm]
  have hlt := (b1 ++ b3).isLt
  have ht : (sext18 b1 b3).toInt = (b1 ++ b3 ++ (0 : BitVec 2)).toInt :=
    BitVec.toInt_signExtend_of_le (by decide)
  rw [BitVec.toInt_eq_toNat_cond (b1 ++ b3 ++ _), hn] at ht
  simp only [isDisplacement, Bool.and_eq_true, decide_eq_true_eq]
  split at ht <;> omega

/-! ### Ranges of the operands the rules build (R30) -/

@[simp] theorem regOp_inRange (v : Byte) : (regOp v).inRange = true := by
  have := v.isLt
  simp [regOp, Operand.inRange]; omega

/-- An unsigned immediate of at most 16 bits is in range (R30 (f)). -/
theorem immOp_inRange {n : Nat} (v : BitVec n) (hn : n ≤ 16) : (immOp v).inRange = true := by
  have hv : v.toNat < 2 ^ 16 := lt_of_lt_of_le v.isLt (Nat.pow_le_pow_right (by decide) hn)
  have hw : (v.setWidth 32).toNat ≤ v.toNat := by
    rw [BitVec.toNat_setWidth]; exact Nat.mod_le _ _
  exact Bool.or_eq_true_iff.2 (.inr (decide_eq_true (by show (v.setWidth 32).toNat ≤ 65535; omega)))

@[simp] theorem regOrImmOp_inRange (m : Bool) (v : Byte) : (regOrImmOp m v).inRange = true := by
  cases m
  · exact regOp_inRange v
  · exact immOp_inRange v (by decide)

/-- A displacement is in range as a `JumpDisplacement` and as an `Immediate`. -/
theorem sext18_inRange (t : SemType) (ht : t = .jumpDisplacement ∨ t = .immediate) (b1 b3 : Byte) :
    (Operand.mk t (sext18 b1 b3)).inRange = true := by
  rcases ht with rfl | rfl <;> simp [Operand.inRange, sext18_isDisplacement]

/-! ### The slots a rule fills -/

/-- The operands kind `k` sets, in slot order (R81 to R99); the slots after them are unused. -/
def ruleOperands (l : Layout) (b : Bytes4) : RuleKind → List Operand
  | .RRM => [regOp b.b1, regOp b.b2, regOrImmOp (selectedBit l b) b.b3]
  | .RRR => [regOp b.b1, regOp b.b2, regOp b.b3]
  | .RI16 => [regOp b.b2, immOp (b.b1 ++ b.b3)]
  | .RDISP =>
    [regOp b.b2, ⟨if selectedBit l b then .immediate else .jumpDisplacement, sext18 b.b1 b.b3⟩]
  | .DISP => [⟨if selectedBit l b then .jumpDisplacement else .immediate, sext18 b.b1 b.b3⟩]
  | .LDST =>
    [immOp (b.b1.extractLsb' 7 1), immOp (b.b1.extractLsb' 0 7), regOp b.b2,
      regOrImmOp (selectedBit l b) b.b3]
  | .ICALL => [regOp b.b2, regOp b.b3]
  | .RRI2 => [regOp b.b1, regOp b.b2, immOp (b.b3 &&& 3)]
  | .CLZ => [regOp b.b1, regOrImmOp (selectedBit l b) b.b3]
  | .CVT6 =>
    [regOp b.b1, regOp b.b2, immOp (b.b3.extractLsb' 7 1), immOp (b.b3.extractLsb' 4 3),
      immOp (b.b3.extractLsb' 2 2), immOp (b.b3.extractLsb' 0 2)]
  | .RCRA => [regOp b.b1, regOp b.b2]
  | .MAC => [immOp (b.b1.extractLsb' 2 4), immOp (b.b1.extractLsb' 0 2), regOp b.b1, regOp b.b2]
  | .R1R3 => [regOp b.b1, regOp b.b3]
  | .RB => [regOp b.b3]
  | .RC_I2I2 =>
    [regOp b.b1, immOp (b.b3.extractLsb' l.narrowI2.first 2),
      immOp (b.b3.extractLsb' l.narrowI2.second 2)]
  | .RA_I2I2 =>
    [regOp b.b2, immOp (b.b3.extractLsb' l.narrowI2.first 2),
      immOp (b.b3.extractLsb' l.narrowI2.second 2)]
  | .MFSR => [regOp b.b1, regOp b.b2]
  | .MTSR => [regOp b.b2, regOp b.b3]
  | .NONE => []

/-- A byte typed by the mode bit as the rules spell it is the claims' register or immediate (R103). -/
theorem immediateIfMode_zextByte (l : Layout) (b : Bytes4) (v : Byte) :
    (Operand.mk (immediateIfMode l b) (zextByte v)) = regOrImmOp (selectedBit l b) v := by
  rw [immediateIfMode, modeBit_eq_selectedBit]
  cases selectedBit l b <;> rfl

/-- A rule sets its kind's operands and marks the slots after them unused, whatever they held (R74). -/
theorem fillSlots_toList (l : Layout) (k : RuleKind) (ops : Slots) (b : Bytes4) :
    (fillSlots l k ops b).toList =
      ruleOperands l b k ++ List.replicate (6 - (ruleOperands l b k).length) unusedOp := by
  cases k
  case RRM => simp only [ruleOperands, ← immediateIfMode_zextByte]; rfl
  case CLZ => simp only [ruleOperands, ← immediateIfMode_zextByte]; rfl
  case LDST => simp only [ruleOperands, ← immediateIfMode_zextByte]; rfl
  case RDISP => simp only [ruleOperands, ← modeBit_eq_selectedBit, ← scaledDisp_eq_sext18]; rfl
  case DISP => simp only [ruleOperands, ← modeBit_eq_selectedBit, ← scaledDisp_eq_sext18]; rfl
  case RI16 => simp only [ruleOperands, immOp, ← imm16_eq_append]; rfl
  case RC_I2I2 => simp only [ruleOperands, immOp, ← narrowFirst_eq, ← narrowSecond_eq]; rfl
  case RA_I2I2 => simp only [ruleOperands, immOp, ← narrowFirst_eq, ← narrowSecond_eq]; rfl
  all_goals rfl

/-- The operands a rule sets are in their ranges (R30 (c) to (f)). -/
theorem ruleOperands_inRange (l : Layout) (k : RuleKind) (b : Bytes4) :
    ∀ o ∈ ruleOperands l b k, o.inRange = true := by
  cases k
  case RDISP => cases h : selectedBit l b <;> simp [ruleOperands, h, sext18_inRange]
  case DISP => cases h : selectedBit l b <;> simp [ruleOperands, h, sext18_inRange]
  all_goals simp [ruleOperands, immOp_inRange]

/-- The operands a rule sets are not `Unused`. -/
theorem ruleOperands_type_ne_unused (l : Layout) (k : RuleKind) (b : Bytes4) :
    ∀ o ∈ ruleOperands l b k, o.type ≠ .unused := by
  cases k <;> cases h : selectedBit l b <;> simp [ruleOperands, h, regOp, immOp, regOrImmOp]

/-- Set operands followed by unused slots only meet R30 (b). -/
theorem Slots.setSlotsArePrefix_of_toList {ops : Slots} {l : List Operand} {n : Nat}
    (h : ops.toList = l ++ List.replicate n unusedOp) (hl : ∀ o ∈ l, o.type ≠ .unused) :
    ops.setSlotsArePrefix = true := by
  rw [Slots.setSlotsArePrefix, h, List.dropWhile_append_of_pos (by simpa using hl), List.all_eq_true]
  intro o ho
  rw [List.eq_of_mem_replicate (List.dropWhile_subset _ ho)]
  rfl

/-- Whatever the bytes, a rule gives operands as R30 asks of a result of `decode`. -/
theorem applyRule_wellFormed (l : Layout) (mnemonic : String) (cls : InstrClass) (k : RuleKind)
    (b : Bytes4) : DecodedInstr.wellFormed ⟨mnemonic, cls, applyRule l k b⟩ = true := by
  have slots := fillSlots_toList l k Slots.allUnused b
  have setFirst : (applyRule l k b).setSlotsArePrefix = true :=
    Slots.setSlotsArePrefix_of_toList slots (ruleOperands_type_ne_unused l k b)
  have inRange : (applyRule l k b).toList.all Operand.inRange = true := by
    rw [applyRule, slots, List.all_append, Bool.and_eq_true, List.all_eq_true, List.all_eq_true]
    refine ⟨ruleOperands_inRange l k b, fun o ho => ?_⟩
    rw [List.eq_of_mem_replicate ho]
    rfl
  rw [DecodedInstr.wellFormed, setFirst, inRange]
  rfl

/-- The no-op literal's instruction has no operands (R113). -/
theorem allUnused_wellFormed (mnemonic : String) (cls : InstrClass) :
    DecodedInstr.wellFormed ⟨mnemonic, cls, Slots.allUnused⟩ = true := rfl

/-- Settles O9: an `ok` result is the no-op or a rule's operands, and both are well formed. -/
theorem decodeResultsAreWellFormed : Obligations.DecodeResultsAreWellFormed := by
  intro compat p bufPresent len b v sinkPresent d h
  rcases decodeWith_cases compat p bufPresent len b v sinkPresent with
    ⟨-, h'⟩ | ⟨-, -, h'⟩ | ⟨-, -, e, -, h'⟩ | ⟨-, -, -, h'⟩ <;> rw [h'] at h <;> cases h
  · exact allUnused_wellFormed _ _
  · exact applyRule_wellFormed _ _ _ _ _

end Sys2Proof.Machine
end

section
/-! The row of the opcode table that a Catalog Entry is keeps the entry, the word and the meaning. -/

namespace Sys2Proof

/-- The word of a row with a constructor of its own: its opcode byte, then the operand bytes (R48). -/
theorem encode_namedRows (p : Params) (b1 b2 b3 : Byte) :
    ∀ r ∈ namedRows, encode p (r.2 b1 b2 b3) = ⟨r.1, b1, b2, b3⟩ := by
  simp only [namedRows, namedRows0, namedRows1, namedRows2, namedRows3, namedRows4, namedRows5,
    namedRows6, namedRows7, List.forall_mem_append, List.forall_mem_cons, List.not_mem_nil,
    false_imp_iff, implies_true, and_true]
  and_intros <;> rfl

/-- The row of an entry's kind has that entry. -/
theorem kindInstr_entry (e : CatalogEntry) (b1 b2 b3 : Byte) :
    (kindInstr e b1 b2 b3).entry = some e := by
  obtain ⟨opcode, app, mnemonic, cls, rule⟩ := e
  cases rule <;> rfl

/-- The row of an entry's kind keeps the word (R48). -/
theorem encode_kindInstr (p : Params) (e : CatalogEntry) (b1 b2 b3 : Byte) :
    encode p (kindInstr e b1 b2 b3) = ⟨e.opcode, b1, b2, b3⟩ := by
  obtain ⟨opcode, app, mnemonic, cls, rule⟩ := e
  cases rule <;> rfl

/-- What the row of an entry can be: one that names the entry, row 0, or the row of its kind. -/
theorem instrOfEntry_cases (e : CatalogEntry) (b1 b2 b3 : Byte) :
    (∃ i, namedInstr e.opcode b1 b2 b3 = some i ∧ i.entry = some e ∧ instrOfEntry e b1 b2 b3 = i) ∨
    (e.isAttested = true ∧
      instrOfEntry e b1 b2 b3 = .attested_14 e.app e.mnemonic e.cls b1 b2 b3) ∨
    instrOfEntry e b1 b2 b3 = kindInstr e b1 b2 b3 := by
  have other : instrOfEntry e b1 b2 b3 = instrOfEntry.otherRow e b1 b2 b3 →
      (e.isAttested = true ∧
        instrOfEntry e b1 b2 b3 = .attested_14 e.app e.mnemonic e.cls b1 b2 b3) ∨
      instrOfEntry e b1 b2 b3 = kindInstr e b1 b2 b3 := by
    intro h
    cases ha : e.isAttested <;> simp [h, instrOfEntry.otherRow, ha]
  cases hn : namedInstr e.opcode b1 b2 b3 with
  | none => exact .inr (other (by simp [instrOfEntry, hn]))
  | some i =>
    by_cases hi : i.entry = some e
    · exact .inl ⟨i, rfl, hi, by simp [instrOfEntry, hn, hi]⟩
    · exact .inr (other (by simp [instrOfEntry, hn, hi]))

/-- The row found for an opcode byte keeps the word (R48). -/
theorem encode_of_namedInstr {p : Params} {opcode b1 b2 b3 : Byte} {i : Instr}
    (h : namedInstr opcode b1 b2 b3 = some i) : encode p i = ⟨opcode, b1, b2, b3⟩ := by
  simp only [namedInstr, Option.map_eq_some_iff] at h
  obtain ⟨r, hr, rfl⟩ := h
  rw [encode_namedRows p b1 b2 b3 r (List.mem_of_find?_eq_some hr)]
  simpa using List.find?_some hr

/-- The row an entry is has that entry and keeps the word (R48, R115). -/
theorem instrOfEntry_entry_encode (p : Params) (e : CatalogEntry) (b1 b2 b3 : Byte) :
    (instrOfEntry e b1 b2 b3).entry = some e ∧
      encode p (instrOfEntry e b1 b2 b3) = ⟨e.opcode, b1, b2, b3⟩ := by
  rcases instrOfEntry_cases e b1 b2 b3 with ⟨i, hn, he, hi⟩ | ⟨ha, hi⟩ | hi <;> rw [hi]
  · exact ⟨he, encode_of_namedInstr hn⟩
  · obtain ⟨opcode, app, mnemonic, cls, rule⟩ := e
    simp only [CatalogEntry.isAttested, Bool.and_eq_true, beq_iff_eq] at ha
    obtain ⟨rfl, rfl⟩ := ha
    exact ⟨rfl, rfl⟩
  · exact ⟨kindInstr_entry e b1 b2 b3, encode_kindInstr p e b1 b2 b3⟩

end Sys2Proof

namespace Sys2Proof.Machine

/-- The meaning of every row with an entry is the entry's, for the row's word (R115). -/
theorem exec_of_entry {i : Instr} {e : CatalogEntry} (s : State) (h : i.entry = some e) :
    exec i s = complete e.mnemonic e.cls e.rule (encode s.params i) s := by
  cases i <;> cases h <;> rfl

end Sys2Proof.Machine
end

section
/-! The step as a function of the inputs, the invariant it keeps (R13, R30), and the caller's sweep (D33). -/

namespace Sys2Proof.Machine

/-! ### The step as a function of the inputs -/

/-- The result `decode` gives for what stands at the input ports (R111). -/
def State.decodeResult (s : State) : DecodeResult :=
  decodeWith s.params.compat.admits s.params s.bufPresent s.len s.bytes s.cpuVariant s.sinkPresent

/-- The ports after `decode` answers `r`: delivered to the consumers, or the error alone. -/
def State.answer (s : State) : DecodeResult → State
  | .ok d => s.deliver d
  | .err e => s.raise e

/-- The state a step goes to. -/
def State.stepped (s : State) : State :=
  match s.request with
  | .consume d => s.consume d
  | .decode => s.answer s.decodeResult

@[simp] theorem State.answer_ok (s : State) (d : DecodedInstr) : s.answer (.ok d) = s.deliver d := rfl
@[simp] theorem State.answer_err (s : State) (e : DecodeError) : s.answer (.err e) = s.raise e := rfl

@[simp] theorem State.answer_result (s : State) (r : DecodeResult) :
    (s.answer r).result = .driven r := by
  cases r <;> rfl

theorem State.stepped_of_consume {s : State} {d : DecodedInstr} (h : s.request = .consume d) :
    s.stepped = s.consume d := by
  simp [State.stepped, h]

theorem State.stepped_of_decode {s : State} (h : s.request = .decode) :
    s.stepped = s.answer s.decodeResult := by
  simp [State.stepped, h]

/-- Fetching an instruction and answering `decode` agree: on the error, on the no-op literal (R113), or
on the entry selected for the opcode byte (R115). -/
theorem State.decodeResult_fetchInstr_cases (s : State) :
    (∃ e, s.decodeResult = .err e ∧ s.fetchInstr = .error e) ∨
    (s.decodeResult = .ok ⟨s.params.nopMnemonic, .nop, Slots.allUnused⟩ ∧
      s.fetchInstr = .ok .nopLiteral) ∨
    (∃ e, e.opcode = s.bytes.b0 ∧
      s.decodeResult = .ok ⟨e.mnemonic, e.cls, applyRule s.params.layout e.rule s.bytes⟩ ∧
      s.fetchInstr = .ok (instrOfEntry e s.bytes.b1 s.bytes.b2 s.bytes.b3)) := by
  rcases decodeWith_cases s.params.compat.admits s.params s.bufPresent s.len s.bytes s.cpuVariant
      s.sinkPresent with
    ⟨hi, hd⟩ | ⟨hi, hb, hd⟩ | ⟨hi, hb, e, hs, hd⟩ | ⟨hi, hb, hs, hd⟩
  · exact .inl ⟨_, hd, by simp [State.fetchInstr, hi]⟩
  · exact .inr (.inl ⟨hd, by simp [State.fetchInstr, hi, decodeWord, hb]⟩)
  · exact .inr (.inr ⟨e, (scan_eq_some_iff.1 hs).1, hd, by
      simp [State.fetchInstr, hi, decodeWord, hb, hs]⟩)
  · exact .inl ⟨_, hd, by simp [State.fetchInstr, hi, decodeWord, hb, hs]⟩

theorem step_of_fetch_error {s : State} {e : DecodeError} (hr : s.request = .decode)
    (hf : s.fetchInstr = .error e) : step s = .next (s.raise e) := by
  simp [step, hr, hf]

theorem step_of_fetch_ok {s : State} {i : Instr} (hr : s.request = .decode)
    (hf : s.fetchInstr = .ok i) : step s = exec i s := by
  simp [step, hr, hf]

/-- The row of an entry with opcode byte `b.b0`, run on `b`, delivers what the entry says (R115). -/
theorem exec_instrOfEntry {e : CatalogEntry} {b : Bytes4} (s : State) (h : e.opcode = b.b0) :
    exec (instrOfEntry e b.b1 b.b2 b.b3) s =
      .next (s.deliver ⟨e.mnemonic, e.cls, applyRule s.params.layout e.rule b⟩) := by
  obtain ⟨hentry, hword⟩ := instrOfEntry_entry_encode s.params e b.b1 b.b2 b.b3
  rw [exec_of_entry s hentry, hword, h]
  rfl

/-- The step through the rows of the opcode table is `decode` of the inputs (R111). -/
theorem step_of_decode {s : State} (hr : s.request = .decode) :
    step s = .next (s.answer s.decodeResult) := by
  rcases s.decodeResult_fetchInstr_cases with ⟨e, hd, hf⟩ | ⟨hd, hf⟩ | ⟨e, hop, hd, hf⟩ <;> rw [hd]
  · exact step_of_fetch_error hr hf
  · exact step_of_fetch_ok hr hf
  · exact (step_of_fetch_ok hr hf).trans (exec_instrOfEntry s hop)

/-- Every step goes on, to the state its inputs determine (R186). -/
theorem step_eq_stepped (s : State) : step s = .next s.stepped := by
  cases hr : s.request with
  | consume d => simp [step, State.stepped, hr]
  | decode => rw [step_of_decode hr, State.stepped_of_decode hr]

theorem step_eq_next_iff (s t : State) : step s = .next t ↔ t = s.stepped := by
  rw [step_eq_stepped, Host.Outcome.next.injEq, eq_comm]

/-! ### What a step leaves unchanged -/

theorem State.sameInputs_consume (s : State) (d : DecodedInstr) : (s.consume d).sameInputs s := by
  simp [State.sameInputs]

theorem State.sameInputs_answer (s : State) (r : DecodeResult) : (s.answer r).sameInputs s := by
  cases r <;> simp [State.sameInputs]

/-- A step changes no input and no parameter (R13). -/
theorem State.sameInputs_stepped (s : State) : s.stepped.sameInputs s := by
  cases hr : s.request with
  | consume d => rw [State.stepped_of_consume hr]; exact s.sameInputs_consume d
  | decode => rw [State.stepped_of_decode hr]; exact s.sameInputs_answer _

/-- What a consume request drives does not depend on the output ports before it (R13). -/
theorem State.consume_congr {s s' : State} (h : s.sameInputs s') (d : DecodedInstr) :
    s.consume d = s'.consume d := by
  obtain ⟨hp, hr, hbuf, hlen, hbytes, hv, hk, ha, hn⟩ := h
  simp only [State.consume, State.driveConsumers, hp, hr, hbuf, hlen, hbytes, hv, hk, ha, hn]

theorem State.answer_congr {s s' : State} (h : s.sameInputs s') (r : DecodeResult) :
    s.answer r = s'.answer r := by
  obtain ⟨hp, hr, hbuf, hlen, hbytes, hv, hk, ha, hn⟩ := h
  cases r <;> simp only [State.answer, State.deliver, State.raise, State.driveConsumers, hp, hr, hbuf,
    hlen, hbytes, hv, hk, ha, hn]

theorem State.decodeResult_congr {s s' : State} (h : s.sameInputs s') :
    s.decodeResult = s'.decodeResult := by
  obtain ⟨hp, -, hbuf, hlen, hbytes, hv, hk, -, -⟩ := h
  simp only [State.decodeResult, hp, hbuf, hlen, hbytes, hv, hk]

/-- The state a step goes to does not depend on the output ports before it (R13). -/
theorem State.stepped_congr {s s' : State} (h : s.sameInputs s') : s.stepped = s'.stepped := by
  have ⟨_, request, _⟩ := h
  cases hr : s.request with
  | consume d =>
    rw [State.stepped_of_consume hr, State.stepped_of_consume (request.symm.trans hr),
      State.consume_congr h]
  | decode =>
    rw [State.stepped_of_decode hr, State.stepped_of_decode (request.symm.trans hr),
      State.answer_congr h, State.decodeResult_congr h]

/-- Settles O37: the step is a function of the inputs and parameters, and keeps them. -/
theorem blockIsStateless : Obligations.BlockIsStateless := by
  constructor
  · intro s t h
    rw [(step_eq_next_iff s t).1 h]
    exact s.sameInputs_stepped
  · intro s s' t t' same h h'
    rw [(step_eq_next_iff s t).1 h, (step_eq_next_iff s' t').1 h', State.stepped_congr same]

/-! ### The invariant -/

/-- A well-formed operand that is set has a text (R132, R173). -/
theorem operandText_ne_none_of_inRange (a : Word) {o : Operand} (hr : o.inRange = true)
    (hu : o.type ≠ .unused) : operandText a o ≠ none := by
  rw [Ne, operandText_eq_none_iff]
  rintro (h | ⟨h, hv⟩)
  · exact hu h
  · simp only [Operand.inRange, h, decide_eq_true_eq] at hr
    omega

/-- The operands before the first unused slot are slots, and set. -/
theorem Slots.mem_live {ops : Slots} {o : Operand} (h : o ∈ ops.live) :
    o ∈ ops.toList ∧ o.type ≠ .unused :=
  ⟨List.takeWhile_subset _ h, by simpa using List.mem_takeWhile_imp h⟩

/-- The mapper refuses no well-formed Decoded Instruction (R173). -/
theorem render_of_wellFormed (n : Nat) (a : Word) {d : DecodedInstr} (h : d.wellFormed = true) :
    ∃ t, render n a d = some t := by
  simp only [DecodedInstr.wellFormed, Bool.and_eq_true, List.all_eq_true] at h
  obtain ⟨-, inRange⟩ := h
  have line : appendOperands a d.mnemonic d.ops.live ≠ none := by
    rw [Ne, appendOperands_eq_none_iff]
    rintro ⟨o, ho, hnone⟩
    obtain ⟨hmem, hset⟩ := Slots.mem_live ho
    exact operandText_ne_none_of_inRange a (inRange o hmem) hset hnone
  rw [← Option.ne_none_iff_exists', Ne, render_eq_none_iff, fullText]
  split
  · exact line
  · exact Option.some_ne_none _

theorem State.portsAgree_consume (s : State) (d : DecodedInstr) : (s.consume d).portsAgree := trivial

theorem State.portsAgree_raise (s : State) (e : DecodeError) : (s.raise e).portsAgree :=
  ⟨rfl, rfl, rfl⟩

/-- A well-formed instruction delivered leaves the ports in agreement, a text among them (R46, R173). -/
theorem State.portsAgree_deliver (s : State) {d : DecodedInstr} (h : d.wellFormed = true) :
    (s.deliver d).portsAgree := by
  obtain ⟨t, ht⟩ := render_of_wellFormed s.bufferSizeHint s.currentAddress h
  exact ⟨h, rfl, rfl, t, ht, congrArg Port.driven ht⟩

/-- Whatever the ports held before, they agree after a step. -/
theorem State.portsAgree_stepped (s : State) : s.stepped.portsAgree := by
  cases hr : s.request with
  | consume d => rw [State.stepped_of_consume hr]; exact s.portsAgree_consume d
  | decode =>
    rw [State.stepped_of_decode hr]
    cases hd : s.decodeResult with
    | ok d => exact s.portsAgree_deliver (decodeResultsAreWellFormed _ _ _ _ _ _ _ d hd)
    | err e => exact s.portsAgree_raise e

/-- Settles O41: a step changes no parameter, and the ports it drives agree. -/
theorem stepKeepsTheInvariant : Obligations.StepKeepsTheInvariant := by
  rintro s t ⟨paramsMeet, -⟩ h
  rw [(step_eq_next_iff s t).1 h]
  have ⟨sameParams, _⟩ := s.sameInputs_stepped
  exact ⟨by rw [sameParams]; exact paramsMeet, s.portsAgree_stepped⟩

/-! ### The caller's sweep -/

/-- The state after the block has answered one group of four bytes (D33). -/
def State.afterGroup (s : State) (b : Bytes4) : State :=
  (s.presentGroup b).answer (s.presentGroup b).decodeResult

/-- The sweep over one more group: the line of the group, then the sweep of the rest (D33). -/
theorem sweep_group (b0 b1 b2 b3 : Byte) (rest : List Byte) (s : State) :
    sweep (b0 :: b1 :: b2 :: b3 :: rest) s =
      (s.afterGroup ⟨b0, b1, b2, b3⟩).sweepLine ::
        sweep rest (s.afterGroup ⟨b0, b1, b2, b3⟩).nextAddress := by
  rw [sweep, step_of_decode (State.presentGroup_request s _)]
  rfl

/-- One group leaves the caller's parameters, variant and address (R13, R24). -/
theorem State.afterGroup_inputs (s : State) (b : Bytes4) :
    (s.afterGroup b).params = s.params ∧ (s.afterGroup b).cpuVariant = s.cpuVariant ∧
      (s.afterGroup b).currentAddress = s.currentAddress := by
  obtain ⟨params, -, -, -, -, variant, -, address, -⟩ :=
    (s.presentGroup b).sameInputs_answer (s.presentGroup b).decodeResult
  exact ⟨params, variant, address⟩

/-- The line of a group: its address and what `decode` gives for it alone. -/
theorem State.afterGroup_sweepLine (s : State) (b : Bytes4) :
    (s.afterGroup b).sweepLine.address = s.currentAddress ∧
      (s.afterGroup b).sweepLine.result = .driven (decodeWith s.params.compat.admits s.params true 4
        b s.cpuVariant true) := by
  obtain ⟨-, -, address⟩ := s.afterGroup_inputs b
  exact ⟨address, State.answer_result _ _⟩

/-- The sweep has one line per whole group of four bytes. -/
theorem sweep_length : ∀ (bytes : List Byte) (s : State), (sweep bytes s).length = bytes.length / 4
  | [], _ | [_], _ | [_, _], _ | [_, _, _], _ => by simp [sweep]
  | b0 :: b1 :: b2 :: b3 :: rest, s => by
    rw [sweep_group, List.length_cons, sweep_length rest]
    simp only [List.length_cons]
    omega

/-- Line `k` of the sweep is what the block answers for group `k`, at its address (D33). -/
theorem sweep_line : ∀ (bytes : List Byte) (s : State) (k : Nat) (b0 b1 b2 b3 : Byte),
    bytes[4 * k]? = some b0 → bytes[4 * k + 1]? = some b1 → bytes[4 * k + 2]? = some b2 →
    bytes[4 * k + 3]? = some b3 →
    ∃ line, (sweep bytes s)[k]? = some line ∧
      line.address = s.currentAddress + BitVec.ofNat 32 (4 * k) ∧
      line.result = .driven (decodeWith s.params.compat.admits s.params true 4 ⟨b0, b1, b2, b3⟩
        s.cpuVariant true)
  | [], _, _, _, _, _, _, _, _, _, h3 | [_], _, _, _, _, _, _, _, _, _, h3
  | [_, _], _, _, _, _, _, _, _, _, _, h3 | [_, _, _], _, _, _, _, _, _, _, _, _, h3 => by
    simp at h3
  | a0 :: a1 :: a2 :: a3 :: rest, s, 0, b0, b1, b2, b3, h0, h1, h2, h3 => by
    obtain ⟨rfl, rfl, rfl, rfl⟩ : a0 = b0 ∧ a1 = b1 ∧ a2 = b2 ∧ a3 = b3 := by
      simpa using And.intro h0 (And.intro h1 (And.intro h2 h3))
    obtain ⟨address, result⟩ := s.afterGroup_sweepLine ⟨a0, a1, a2, a3⟩
    exact ⟨_, by rw [sweep_group]; rfl, by simpa using address, result⟩
  | a0 :: a1 :: a2 :: a3 :: rest, s, k + 1, b0, b1, b2, b3, h0, h1, h2, h3 => by
    obtain ⟨params, variant, address⟩ := s.afterGroup_inputs ⟨a0, a1, a2, a3⟩
    obtain ⟨line, hline, haddress, hresult⟩ :=
      sweep_line rest (s.afterGroup ⟨a0, a1, a2, a3⟩).nextAddress k b0 b1 b2 b3 h0 h1 h2 h3
    rw [State.nextAddress_currentAddress, address] at haddress
    rw [State.nextAddress_params, State.nextAddress_cpuVariant, params, variant] at hresult
    refine ⟨line, by rw [sweep_group]; exact hline, ?_, hresult⟩
    rw [haddress, Nat.mul_succ, Nat.add_comm (4 * k), BitVec.ofNat_add, BitVec.add_assoc]
    rfl

/-- Settles O48: the sweep's length, and each of its lines. -/
theorem sweepAnswersEachGroup : Obligations.SweepAnswersEachGroup :=
  fun bytes s => ⟨sweep_length bytes s, sweep_line bytes s⟩

end Sys2Proof.Machine
end

section
/-! Repeating a step, and the consume request (R38, R46, R164, R187). -/

namespace Sys2Proof.Machine

/-- A second step goes where the first went: the first kept every input (R38, R164). -/
@[simp] theorem State.stepped_stepped (s : State) : s.stepped.stepped = s.stepped :=
  State.stepped_congr s.sameInputs_stepped

/-- Settles O38: a step keeps the inputs, and the state it goes to depends on nothing else. -/
theorem secondStepGivesTheSame : Obligations.SecondStepGivesTheSame := by
  intro s t h
  have target : t = s.stepped := (step_eq_next_iff s t).1 h
  rw [target, step_eq_stepped, State.stepped_stepped]

/-- Settles O40: the step on a consume request goes to `State.consume`, which drives the three consumers'
ports for any instruction (R46, R187). -/
theorem consumersTakeAnyInstruction : Obligations.ConsumersTakeAnyInstruction := by
  intro s d request
  calc step s = .next s.stepped := step_eq_stepped s
    _ = .next (s.consume d) := by rw [State.stepped_of_consume request]
    _ = _ := rfl

end Sys2Proof.Machine
end

section
/-! Encoding and decoding are inverse on the instructions the Catalog selects (R48, R49, R113, R114). -/

namespace Sys2Proof

/-- The no-op literal is the one row without an entry (R113). -/
theorem Instr.entry_eq_none_iff (i : Instr) : i.entry = none ↔ i = .nopLiteral := by
  constructor
  · intro h
    cases i with
    | nopLiteral => rfl
    | _ => cases h
  · rintro rfl; rfl

/-- An instruction with an entry is selected when its bytes are not the literal and the scan of its
opcode byte gives that entry (R113, R114). -/
theorem selects_iff_of_entry {p : Params} {v : Option String} {i : Instr} {e : CatalogEntry}
    (h : i.entry = some e) :
    selects p v i = true ↔
      encode p i ≠ p.nopLiteral ∧ scan p.compat.admits p.catalog v e.opcode = some e := by
  simp [selects, h]

/-- Byte 0 of a well-formed instruction's word is its entry's opcode byte (R48). -/
theorem encode_b0_of_entry (p : Params) {i : Instr} {e : CatalogEntry} (h : i.entry = some e)
    (hw : i.wellFormed = true) : (encode p i).b0 = e.opcode := by
  have word := (instrOfEntry_entry_encode p e (encode p i).b1 (encode p i).b2 (encode p i).b3).2
  rw [Laws.RowRebuild.all i p e h hw] at word
  rw [word]

/-- The no-op literal's bytes decode to its row, whatever the Catalog (R113). -/
theorem decodeWord_nopLiteral (p : Params) (v : Option String) :
    decodeWord p v p.nopLiteral = .ok .nopLiteral := if_pos rfl

/-- A word that is not the literal decodes to the row of the entry the scan gives (R114). -/
theorem decodeWord_of_scan {p : Params} {v : Option String} {b : Bytes4} {e : CatalogEntry}
    (hb : b ≠ p.nopLiteral) (hs : scan p.compat.admits p.catalog v b.b0 = some e) :
    decodeWord p v b = .ok (instrOfEntry e b.b1 b.b2 b.b3) := by
  simp [decodeWord, hb, hs]

/-- Settles O45: the literal is checked first; any other row is built again from the scan's entry and
its own operand bytes. -/
theorem decodeOfEncodeIsTheInstruction : Obligations.DecodeOfEncodeIsTheInstruction := by
  intro p v i hw hs
  cases he : i.entry with
  | none =>
    obtain rfl := (Instr.entry_eq_none_iff i).1 he
    exact decodeWord_nopLiteral p v
  | some e =>
    obtain ⟨notLiteral, scanned⟩ := (selects_iff_of_entry he).1 hs
    rw [← encode_b0_of_entry p he hw] at scanned
    rw [decodeWord_of_scan notLiteral scanned, Laws.RowRebuild.all i p e he hw]

/-! ### The row of an entry is well formed -/

/-- The row of a reference entry is well formed: it is the entry's own constructor (R59). -/
theorem instrOfEntry_referenceCatalog_wellFormed (b1 b2 b3 : Byte) :
    ∀ e ∈ Machine.referenceCatalog, (instrOfEntry e b1 b2 b3).wellFormed = true := by
  simp only [Machine.referenceCatalog, Machine.referenceCatalog0, Machine.referenceCatalog1,
    Machine.referenceCatalog2, Machine.referenceCatalog3, Machine.referenceCatalog4,
    Machine.referenceCatalog5, Machine.referenceCatalog6, Machine.referenceCatalog7,
    List.forall_mem_append, List.forall_mem_cons, List.not_mem_nil, false_imp_iff, implies_true,
    and_true]
  and_intros <;> rfl

/-- The row of an entry's kind is well formed when no other row names the entry. -/
theorem kindInstr_wellFormed (e : CatalogEntry) (b1 b2 b3 : Byte) :
    (kindInstr e b1 b2 b3).wellFormed = e.isGeneric := by
  obtain ⟨opcode, app, mnemonic, cls, rule⟩ := e
  cases rule <;> rfl

/-- Whatever the entry, its row is the most specific one: well formed. -/
theorem instrOfEntry_wellFormed (e : CatalogEntry) (b1 b2 b3 : Byte) :
    (instrOfEntry e b1 b2 b3).wellFormed = true := by
  cases named : e.isNamed with
  | true => exact instrOfEntry_referenceCatalog_wellFormed b1 b2 b3 e (of_decide_eq_true named)
  | false =>
    cases attested : e.isAttested with
    | true =>
      rw [instrOfEntry_attested e b1 b2 b3 named attested]
      obtain ⟨opcode, app, mnemonic, cls, rule⟩ := e
      simp only [CatalogEntry.isAttested, Bool.and_eq_true, beq_iff_eq] at attested
      obtain ⟨rfl, rfl⟩ := attested
      simpa [Instr.wellFormed] using named
    | false =>
      have generic : e.isGeneric = true := by simp [CatalogEntry.isGeneric, named, attested]
      rw [instrOfEntry_generic e b1 b2 b3 generic, kindInstr_wellFormed, generic]

/-- Settles O46: a word decodes to the no-op literal or to its scanned entry's row, which keeps the word. -/
theorem encodeOfDecodeIsTheWord : Obligations.EncodeOfDecodeIsTheWord := by
  intro p v b i h
  rcases decodeWord_cases p v b with ⟨rfl, h'⟩ | ⟨notLiteral, e, scanned, h'⟩ | ⟨-, -, h'⟩ <;>
    rw [h'] at h <;> cases h
  · exact ⟨rfl, rfl, rfl⟩
  · obtain ⟨opcode, -⟩ := scan_eq_some_iff.1 scanned
    obtain ⟨entry, word⟩ := instrOfEntry_entry_encode p e b.b1 b.b2 b.b3
    rw [opcode] at word
    refine ⟨word, instrOfEntry_wellFormed e b.b1 b.b2 b.b3, (selects_iff_of_entry entry).2 ⟨?_, ?_⟩⟩
    · rwa [word]
    · rwa [opcode]

/-- Settles O47, by running the decoder on each word. -/
theorem wordsOfTheTable : Obligations.WordsOfTheTable := by
  unfold Obligations.WordsOfTheTable
  and_intros <;> rfl

end Sys2Proof
end

section
/-! The bits of a word that the operands of its kind depend on (R49, R55). A format reads fields of the
word view; the two sides of O8 are each equality of those fields. -/

namespace Sys2Proof.Machine

/-! ### Fields of a word and their masks -/

/-- The word with the `len` bits from bit `start` up set. -/
def fieldMask (start len : Nat) : Word := (BitVec.allOnes len).setWidth 32 <<< start

theorem getLsbD_fieldMask {start len i : Nat} (hi : i < 32) :
    (fieldMask start len).getLsbD i = decide (start ≤ i ∧ i < start + len) := by
  simp only [fieldMask, BitVec.getLsbD_shiftLeft, BitVec.getLsbD_setWidth, BitVec.getLsbD_allOnes]
  grind

/-- Two words agree under a mask exactly when they agree on each bit of it. -/
theorem and_eq_and_iff_getLsbD (x y m : Word) :
    x &&& m = y &&& m ↔ ∀ i < 32, m.getLsbD i = true → x.getLsbD i = y.getLsbD i := by
  simp only [BitVec.eq_of_getLsbD_eq_iff, BitVec.getLsbD_and]
  grind

/-- Two words agree under the mask of a field exactly when the fields are equal. -/
theorem and_fieldMask_eq_iff (x y : Word) {start len : Nat} (h : start + len ≤ 32) :
    x &&& fieldMask start len = y &&& fieldMask start len ↔
      x.extractLsb' start len = y.extractLsb' start len := by
  rw [and_eq_and_iff_getLsbD, BitVec.eq_of_getLsbD_eq_iff]
  simp only [BitVec.getLsbD_extractLsb']
  constructor
  · intro bits i hi
    have inField : (fieldMask start len).getLsbD (start + i) = true := by
      rw [getLsbD_fieldMask (by omega)]; simp [hi]
    simp [hi, bits (start + i) (by omega) inField]
  · intro bits i hi inField
    rw [getLsbD_fieldMask hi, decide_eq_true_eq] at inField
    have := bits (i - start) (by omega)
    simpa [show start + (i - start) = i by omega, show i - start < len by omega] using this

/-- Two words agree under a union of masks exactly when they agree under both. -/
theorem and_or_eq_iff (x y m n : Word) :
    x &&& (m ||| n) = y &&& (m ||| n) ↔ x &&& m = y &&& m ∧ x &&& n = y &&& n := by
  simp only [and_eq_and_iff_getLsbD, BitVec.getLsbD_or]
  grind

/-! ### The fields each format reads -/

/-- The place of the mode bit in the word view (R10, R78). -/
def modePlace (l : Layout) : Nat := 8 * (3 - l.mSel.byte.val) + l.mSel.bit.val

/-- The fields of the word that the format of each kind reads, as lowest bit and length (R49, R52),
in the order of its operands: byte 1 is (16, 8), byte 2 is (8, 8), byte 3 is (0, 8). -/
def readFields (l : Layout) : RuleKind → List (Nat × Nat)
  | .RRM => [(16, 8), (8, 8), (0, 8), (modePlace l, 1)]
  | .RRR => [(16, 8), (8, 8), (0, 8)]
  | .RI16 => [(8, 8), (16, 8), (0, 8)]
  | .RDISP => [(8, 8), (16, 8), (0, 8), (modePlace l, 1)]
  | .DISP => [(16, 8), (0, 8), (modePlace l, 1)]
  | .LDST => [(16, 8), (8, 8), (0, 8), (modePlace l, 1)]
  | .ICALL => [(8, 8), (0, 8)]
  | .RRI2 => [(16, 8), (8, 8), (0, 2)]
  | .CLZ => [(16, 8), (0, 8), (modePlace l, 1)]
  | .CVT6 => [(16, 8), (8, 8), (0, 8)]
  | .RCRA => [(16, 8), (8, 8)]
  | .MAC => [(16, 8), (8, 8)]
  | .R1R3 => [(16, 8), (0, 8)]
  | .RB => [(0, 8)]
  | .RC_I2I2 => [(16, 8), (l.narrowI2.first, 2), (l.narrowI2.second, 2)]
  | .RA_I2I2 => [(8, 8), (l.narrowI2.first, 2), (l.narrowI2.second, 2)]
  | .MFSR => [(16, 8), (8, 8)]
  | .MTSR => [(8, 8), (0, 8)]
  | .NONE => []

/-- The mask of a list of fields. -/
def fieldsMask (fields : List (Nat × Nat)) : Word :=
  fields.foldl (fun m f => m ||| fieldMask f.1 f.2) 0

/-- The bits a format reads are those of its fields. -/
theorem readMask_eq_fieldsMask (l : Layout) (k : RuleKind) :
    readMask l k = fieldsMask (readFields l k) := by
  cases k
  case RC_I2I2 => exact (BitVec.or_assoc _ _ _).symm
  case RA_I2I2 => exact (BitVec.or_assoc _ _ _).symm
  all_goals rfl

/-- A field a format reads lies in the word. -/
theorem readFields_le (l : Layout) (k : RuleKind) : ∀ f ∈ readFields l k, f.1 + f.2 ≤ 32 := by
  have mode : modePlace l + 1 ≤ 32 := by unfold modePlace; omega
  have first : l.narrowI2.first.val + 2 ≤ 32 := by omega
  have second : l.narrowI2.second.val + 2 ≤ 32 := by omega
  cases k <;> simp [readFields, mode, first, second]

/-- Two words agree under the mask of a list of fields exactly when all the fields are equal. -/
theorem and_fieldsMask_eq_iff (x y : Word) {fields : List (Nat × Nat)}
    (h : ∀ f ∈ fields, f.1 + f.2 ≤ 32) :
    x &&& fieldsMask fields = y &&& fieldsMask fields ↔
      ∀ f ∈ fields, x.extractLsb' f.1 f.2 = y.extractLsb' f.1 f.2 := by
  have from_mask : ∀ m : Word,
      x &&& fields.foldl (fun m f => m ||| fieldMask f.1 f.2) m =
          y &&& fields.foldl (fun m f => m ||| fieldMask f.1 f.2) m ↔
        x &&& m = y &&& m ∧ ∀ f ∈ fields, x.extractLsb' f.1 f.2 = y.extractLsb' f.1 f.2 := by
    induction fields with
    | nil => simp
    | cons f fields ih =>
      intro m
      rw [List.forall_mem_cons] at h ⊢
      rw [List.foldl_cons, ih h.2, and_or_eq_iff, and_fieldMask_eq_iff x y h.1, and_assoc]
  rw [fieldsMask, from_mask 0]
  simp

/-! ### Fields of the word view -/

@[simp] theorem extract_toWord_b1 (b : Bytes4) : b.toWord.extractLsb' 16 8 = b.b1 :=
  congrArg Bytes4.b1 (Bytes4.ofWord_toWord b)

@[simp] theorem extract_toWord_b2 (b : Bytes4) : b.toWord.extractLsb' 8 8 = b.b2 :=
  congrArg Bytes4.b2 (Bytes4.ofWord_toWord b)

@[simp] theorem extract_toWord_b3 (b : Bytes4) : b.toWord.extractLsb' 0 8 = b.b3 :=
  congrArg Bytes4.b3 (Bytes4.ofWord_toWord b)

/-- A field that lies in the low byte of the word is a field of byte 3 (R10). -/
theorem extract_toWord_low (b : Bytes4) {start len : Nat} (h : start + len ≤ 8) :
    b.toWord.extractLsb' start len = b.b3.extractLsb' start len :=
  BitVec.extractLsb'_append_eq_of_add_le h

/-- The field of the mode bit alone is the mode bit. -/
theorem extract_modePlace_eq_iff (l : Layout) (b b' : Bytes4) :
    b.toWord.extractLsb' (modePlace l) 1 = b'.toWord.extractLsb' (modePlace l) 1 ↔
      selectedBit l b = selectedBit l b' := by
  rw [BitVec.eq_of_getLsbD_eq_iff]
  simp [selectedBit, modePlace]

/-! ### The operands lose nothing of the value they are built from -/

theorem setWidth_inj {m n : Nat} (h : m ≤ n) {v v' : BitVec m} :
    v.setWidth n = v'.setWidth n ↔ v = v' := by
  refine ⟨fun e => ?_, fun e => e ▸ rfl⟩
  simpa [BitVec.setWidth_setWidth_of_le, h] using congrArg (BitVec.setWidth m) e

theorem append_inj {m n : Nat} {x x' : BitVec m} {y y' : BitVec n} :
    x ++ y = x' ++ y' ↔ x = x' ∧ y = y' := by
  refine ⟨fun e => ⟨?_, ?_⟩, fun ⟨ex, ey⟩ => ex ▸ ey ▸ rfl⟩
  · simpa [BitVec.extractLsb'_append_eq_left] using congrArg (BitVec.extractLsb' n m) e
  · simpa [BitVec.extractLsb'_append_eq_right] using congrArg (BitVec.extractLsb' 0 n) e

@[simp] theorem regOp_inj {v v' : Byte} : regOp v = regOp v' ↔ v = v' := by
  simp [regOp, setWidth_inj]

theorem immOp_inj {n : Nat} (h : n ≤ 32) {v v' : BitVec n} : immOp v = immOp v' ↔ v = v' := by
  simp [immOp, setWidth_inj h]

/-- A 16-bit immediate holds both its bytes (R80). -/
theorem immOp_append_inj {b1 b3 b1' b3' : Byte} :
    immOp (b1 ++ b3) = immOp (b1' ++ b3') ↔ b1 = b1' ∧ b3 = b3' := by
  rw [immOp_inj (by decide), append_inj]

/-- A register or immediate operand holds the mode bit in its type and the byte in its value. -/
@[simp] theorem regOrImmOp_inj {m m' : Bool} {v v' : Byte} :
    regOrImmOp m v = regOrImmOp m' v' ↔ v = v' ∧ m = m' := by
  cases m <;> cases m' <;> simp [regOrImmOp, regOp, immOp, setWidth_inj]

/-- A displacement holds both its bytes (R79). -/
theorem sext18_inj {b1 b3 b1' b3' : Byte} : sext18 b1 b3 = sext18 b1' b3' ↔ b1 = b1' ∧ b3 = b3' := by
  have value (c1 c3 : Byte) : (sext18 c1 c3).toInt = (c1 ++ c3 ++ (0 : BitVec 2)).toInt :=
    BitVec.toInt_signExtend_of_le (by decide)
  rw [← BitVec.toInt_inj, value, value, BitVec.toInt_inj, append_inj, append_inj]
  simp

/-- An operand typed by the mode bit with a displacement holds the mode bit and both bytes. -/
theorem displacementOp_inj {t f : SemType} (h : t ≠ f) {m m' : Bool} {b1 b3 b1' b3' : Byte} :
    Operand.mk (if m then t else f) (sext18 b1 b3) =
        Operand.mk (if m' then t else f) (sext18 b1' b3') ↔ b1 = b1' ∧ b3 = b3' ∧ m = m' := by
  rw [Operand.mk.injEq, sext18_inj]
  cases m <;> cases m' <;> simp [h, h.symm]

/-- Masking a byte with 3 keeps its low two bits. -/
theorem and_three_inj {v v' : Byte} : v &&& 3#8 = v' &&& 3#8 ↔ v.extractLsb' 0 2 = v'.extractLsb' 0 2 := by
  have low (x : Byte) : x &&& 3#8 = (x.extractLsb' 0 2).setWidth 8 := by
    apply BitVec.eq_of_getLsbD_eq
    intro i hi
    interval_cases i <;> simp
  rw [low, low, setWidth_inj (by decide)]

/-- Adjacent fields give back the field they are cut from. -/
theorem extract_split_inj {n : Nat} {v v' : BitVec n} (start lo hi : Nat) :
    v.extractLsb' start (hi + lo) = v'.extractLsb' start (hi + lo) ↔
      v.extractLsb' (start + lo) hi = v'.extractLsb' (start + lo) hi ∧
        v.extractLsb' start lo = v'.extractLsb' start lo := by
  rw [← BitVec.extractLsb'_append_extractLsb'_eq_extractLsb' rfl,
    ← BitVec.extractLsb'_append_extractLsb'_eq_extractLsb' rfl, append_inj]

/-- A byte is its high bit and the seven below it (R86). -/
theorem byte_eq_iff_high_low {v v' : Byte} :
    v = v' ↔ v.extractLsb' 7 1 = v'.extractLsb' 7 1 ∧ v.extractLsb' 0 7 = v'.extractLsb' 0 7 := by
  simpa [BitVec.extractLsb'_eq_self] using extract_split_inj (v := v) (v' := v') 0 7 1

/-- A byte is the four fields of the convert shape (R90). -/
theorem byte_eq_iff_convert {v v' : Byte} :
    v = v' ↔ v.extractLsb' 7 1 = v'.extractLsb' 7 1 ∧ v.extractLsb' 4 3 = v'.extractLsb' 4 3 ∧
      v.extractLsb' 2 2 = v'.extractLsb' 2 2 ∧ v.extractLsb' 0 2 = v'.extractLsb' 0 2 := by
  rw [byte_eq_iff_high_low, extract_split_inj 0 4 3, extract_split_inj 0 2 2]

/-! ### Operands and fields -/

/-- The operands a rule sets are equal exactly when the fields of its format are. -/
theorem ruleOperands_eq_iff (l : Layout) (k : RuleKind) (b b' : Bytes4) :
    ruleOperands l b k = ruleOperands l b' k ↔
      ∀ f ∈ readFields l k, b.toWord.extractLsb' f.1 f.2 = b'.toWord.extractLsb' f.1 f.2 := by
  have low (start : Fin 7) : start.val + 2 ≤ 8 := by omega
  cases k
  all_goals simp only [ruleOperands, readFields]
  case LDST => simp [immOp_inj, extract_modePlace_eq_iff, byte_eq_iff_high_low (v := b.b1), and_assoc]
  case CVT6 => simp [immOp_inj, byte_eq_iff_convert (v := b.b3)]
  case RDISP => simp [-Operand.mk.injEq, displacementOp_inj, extract_modePlace_eq_iff]
  case DISP => simp [-Operand.mk.injEq, displacementOp_inj, extract_modePlace_eq_iff]
  case RI16 => simp [immOp_append_inj]
  case RRI2 => simp [immOp_inj, and_three_inj, extract_toWord_low]
  case RC_I2I2 => simp [immOp_inj, extract_toWord_low, low]
  case RA_I2I2 => simp [immOp_inj, extract_toWord_low, low]
  case MAC =>
    -- slot 2 holds the whole of byte 1, whose two fields fill slots 0 and 1 (R92)
    constructor <;> simp +contextual [immOp_inj]
  all_goals simp [extract_modePlace_eq_iff]

/-- The number of operands a rule sets is its kind's. -/
theorem ruleOperands_length (l : Layout) (k : RuleKind) (b b' : Bytes4) :
    (ruleOperands l b k).length = (ruleOperands l b' k).length := by
  cases k <;> rfl

theorem Slots.toList_inj {a b : Slots} : a.toList = b.toList ↔ a = b := by
  obtain ⟨a0, a1, a2, a3, a4, a5⟩ := a
  obtain ⟨b0, b1, b2, b3, b4, b5⟩ := b
  simp [Slots.toList]

/-- The six slots are equal exactly when the operands the rule sets are. -/
theorem applyRule_eq_iff (l : Layout) (k : RuleKind) (b b' : Bytes4) :
    applyRule l k b = applyRule l k b' ↔ ruleOperands l b k = ruleOperands l b' k := by
  rw [← Slots.toList_inj, applyRule, applyRule, fillSlots_toList, fillSlots_toList,
    ruleOperands_length l k b b', List.append_left_inj]

/-- Settles O8: the operands and the masked words are each determined by the fields the format reads. -/
theorem operandsDetermineTheReadBits : Obligations.OperandsDetermineTheReadBits := by
  intro l k b b'
  rw [applyRule_eq_iff, ruleOperands_eq_iff, readMask_eq_fieldsMask,
    and_fieldsMask_eq_iff _ _ (readFields_le l k)]

end Sys2Proof.Machine
end

section
/-! The operand tagger (R70 to R75): one slot written at a time, all six by every decode rule, and the
arity and shape of what stands in them. -/

namespace Sys2Proof.Machine

/-! ### The slots in order -/

/-- The list of the slots, read at an index, is the tagger's `get` (R72). -/
@[simp] theorem Slots.getElem_toList (ops : Slots) {i : Nat} (h : i < ops.toList.length) :
    ops.toList[i] = ops.get ⟨i, h⟩ := by
  have slot : ∀ k : Fin 6, ops.toList[k] = ops.get k := fun k => by fin_cases k <;> rfl
  exact slot ⟨i, h⟩

/-! ### Arity and shape (R75) -/

/-- The arity is the index of the first `Unused` slot (R75). -/
theorem Slots.arity_eq_findIdx (ops : Slots) :
    ops.arity = ops.toList.findIdx (fun o => !(o.type != .unused)) := by
  rw [arity, live, List.takeWhile_eq_take_findIdx_not, List.length_take,
    Nat.min_eq_left List.findIdx_le_length]

theorem Slots.arity_le_six (ops : Slots) : ops.arity ≤ 6 := by
  rw [arity_eq_findIdx]
  exact List.findIdx_le_length

/-- Slot `i` is before the arity when no slot up to `i` is `Unused`; the six slots may be any (D23). -/
theorem Slots.lt_arity_iff (ops : Slots) (i : Fin 6) :
    i.val < ops.arity ↔ ∀ j : Fin 6, j ≤ i → (ops.get j).type ≠ .unused := by
  rw [arity_eq_findIdx, List.lt_findIdx_iff]
  constructor
  · rintro ⟨_, used⟩ j hj
    simpa using used j.val hj
  · refine fun used => ⟨i.isLt, fun j hj => ?_⟩
    simpa using used ⟨j, hj.trans_lt i.isLt⟩ hj

@[simp] theorem Slots.shape_length (ops : Slots) : ops.shape.length = ops.arity :=
  List.length_map Operand.type

/-- The live operands are an initial part of the slots, so the shape has their tags in their places. -/
theorem Slots.getElem?_shape (ops : Slots) {i : Fin 6} (h : i.val < ops.arity) :
    ops.shape[i.val]? = some (ops.get i).type := by
  have same : ops.live[i.val]'h = ops.toList[i.val] := (List.takeWhile_prefix _).getElem h
  rw [shape, List.getElem?_map, List.getElem?_eq_getElem h, same, getElem_toList, Option.map_some]

/-- Settles O3: the arity is the index of the first `Unused` slot, and the shape is the tags before it. -/
theorem arityIsTheFirstUnusedSlot : Obligations.ArityIsTheFirstUnusedSlot := fun ops =>
  ⟨ops.arity_le_six, ops.shape_length, fun i => ⟨ops.lt_arity_iff i, ops.getElem?_shape⟩⟩

/-! ### What a rule and the tagger write -/

/-- Settles O1: the operands a rule sets are read from the bytes alone, and it marks every later slot
unused. -/
theorem everyRuleSetsAllSixSlots : Obligations.EveryRuleSetsAllSixSlots := by
  intro l k ops ops' b
  rw [← Slots.toList_inj, fillSlots_toList, fillSlots_toList]

/-- Settles O2: `set` and `mark_unused` are both one `put`, of `(T, v)` and of the unused operand. -/
theorem taggerWritesOneSlot : Obligations.TaggerWritesOneSlot := by
  intro ops i j t v
  refine ⟨ops.get_put_same i ⟨t, v⟩, ops.get_put_same i Operand.none, fun h => ⟨?_, ?_⟩⟩
  · exact ops.get_put_other ⟨t, v⟩ h
  · exact ops.get_put_other Operand.none h

end Sys2Proof.Machine
end

section
/-! The displacement field and the operands and shapes of the decode rules (R79, R81 to R103), and the
answers of the rows whose kind has a mode bit (R108, R115). -/

namespace Sys2Proof.Machine

/-! ### The displacement field (R79) -/

/-- The mask 0x20000 tests bit 17. -/
theorem and_signMask_ne_zero_iff (x : BitVec 18) :
    x.setWidth 32 &&& 0x00020000 ≠ 0 ↔ x.getLsbD 17 = true := by
  have nonzero : BitVec.twoPow 32 17 ≠ 0 := by decide
  rw [show (0x00020000 : Word) = BitVec.twoPow 32 17 from rfl, BitVec.and_twoPow]
  simp only [BitVec.getLsbD_setWidth]
  cases x.getLsbD 17
  · simp
  · simpa using nonzero

/-- The raw field as a number: byte 1 above byte 3 above two zero bits. -/
theorem rawDisp_toNat (b : Bytes4) : (rawDisp b).toNat = b.b1.toNat * 1024 + b.b3.toNat * 4 := by
  have low := b.b3.isLt
  have field : (b.b1 ++ b.b3).toNat = b.b1.toNat * 2 ^ 8 + b.b3.toNat := by
    rw [BitVec.toNat_append, ← Nat.shiftLeft_add_eq_or_of_lt low, Nat.shiftLeft_eq]
  have scaled : (rawDisp b).toNat = (b.b1 ++ b.b3).toNat * 2 ^ 2 := by
    rw [rawDisp_eq_append, BitVec.toNat_append (b.b1 ++ b.b3)]
    simp [Nat.shiftLeft_eq]
  omega

/-- The sign bit of the field is the top bit of byte 1. -/
theorem rawDisp_signBit (b : Bytes4) : (rawDisp b).getLsbD 17 = b.b1.getLsbD 7 := by
  rw [rawDisp_eq_append, BitVec.getLsbD_append, BitVec.getLsbD_append]
  rfl

theorem scaledDisp_eq_signExtend (b : Bytes4) : scaledDisp b = (rawDisp b).signExtend 32 :=
  setHighBits_eq_signExtend (rawDisp b)

/-- Read as two's complement, the displacement is the field less 2^18 from 0x80 in byte 1 on. -/
theorem scaledDisp_toInt (b : Bytes4) :
    (scaledDisp b).toInt = (rawDisp b).toNat - (if 128 ≤ b.b1.toNat then 262144 else 0) := by
  have value : (scaledDisp b).toInt = (rawDisp b).toInt := by
    rw [scaledDisp_eq_signExtend, BitVec.toInt_signExtend_of_le (by decide)]
  have field := rawDisp_toNat b
  have low := b.b3.isLt
  rw [value, BitVec.toInt_eq_toNat_cond]
  split <;> split <;> omega

/-- A displacement is a multiple of 4 in the range of R30 (e). -/
theorem scaledDisp_range (b : Bytes4) : (scaledDisp b).toInt % 4 = 0 ∧
    -131072 ≤ (scaledDisp b).toInt ∧ (scaledDisp b).toInt ≤ 131068 := by
  have range := sext18_isDisplacement b.b1 b.b3
  rw [← scaledDisp_eq_sext18] at range
  simpa [isDisplacement, and_assoc] using range

/-- Settles O7: the mask test reads the field's sign bit, so the mask form, the sign extension and the
signed reading are the same value. -/
theorem displacementIsTheSignExtendedField : Obligations.DisplacementIsTheSignExtendedField := by
  have values : (sext18 0x80 0x00).toInt = -131072 ∧ (sext18 0x7F 0xFF).toInt = 131068 ∧
      sext18 0xFE 0xFF = 0xFFFFFBFC := by decide
  refine ⟨fun b => ?_, fun b0 b2 => by simpa only [scaledDisp_eq_sext18] using values⟩
  have maskForm : scaledDisp b = if (rawDisp b).getLsbD 17 then (rawDisp b).setWidth 32 ||| 0xFFFC0000
      else (rawDisp b).setWidth 32 := by
    simp only [scaledDisp, and_signMask_ne_zero_iff]
  exact ⟨rawDisp_toNat b, maskForm, scaledDisp_eq_signExtend b, rawDisp_signBit b,
    scaledDisp_toInt b, scaledDisp_range b⟩

/-! ### The six slots of each kind (R81 to R99) -/

/-- The slots after a rule are any six that hold its operands and then unused ones. -/
theorem fillSlots_eq {l : Layout} {k : RuleKind} {ops after : Slots} {b : Bytes4}
    (h : ruleOperands l b k ++ List.replicate (6 - (ruleOperands l b k).length) unusedOp =
      after.toList) : fillSlots l k ops b = after :=
  Slots.toList_inj.1 ((fillSlots_toList l k ops b).trans h)

/-- Settles O4: each rule's six slots are its operands, then unused ones. -/
theorem sourceWordedRegisterKinds : Obligations.SourceWordedRegisterKinds := by
  intro l ops b0 b1 b2 b3
  and_intros <;> exact fillSlots_eq rfl

/-- Settles O5: as O4, with the one operand typed by the selected bit. -/
theorem modeBitAndDisplacementKinds : Obligations.ModeBitAndDisplacementKinds := by
  intro l ops b0 b1 b2 b3
  have lowBit : selectedBit specLayout ⟨b0, b1, b2, b3⟩ = b1.getLsbD 0 := by
    rw [← modeBit_eq_selectedBit, modeBit_specLayout]
  exact ⟨fillSlots_eq rfl, fillSlots_eq rfl, fillSlots_eq rfl, fillSlots_eq rfl, lowBit⟩

/-! ### The shape of each kind (R102) -/

/-- Set operands followed by unused slots only: the set ones are the live ones (R75). -/
theorem Slots.live_of_toList {ops : Slots} {l : List Operand} {n : Nat}
    (h : ops.toList = l ++ List.replicate n unusedOp) (hl : ∀ o ∈ l, o.type ≠ .unused) :
    ops.live = l := by
  rw [live, h, List.takeWhile_append_of_pos (by simpa using hl)]
  simp [unusedOp]

/-- The live operands after a rule are those it sets. -/
theorem applyRule_live (l : Layout) (k : RuleKind) (b : Bytes4) :
    (applyRule l k b).live = ruleOperands l b k :=
  Slots.live_of_toList (fillSlots_toList l k _ b) (ruleOperands_type_ne_unused l k b)

/-- The types of the operands a rule sets are those the table of R102 lists. -/
theorem ruleOperands_types (l : Layout) (k : RuleKind) (b : Bytes4) :
    (ruleOperands l b k).map Operand.type = shapeOfKind k (selectedBit l b) := by
  cases k
  case RRM | CLZ | LDST | RDISP | DISP =>
    cases h : selectedBit l b <;> simp [ruleOperands, shapeOfKind, h, regOrImmOp, regOp, immOp]
  all_goals rfl

/-- Settles O32: the shape is the types of the live operands, which are the ones the rule sets. -/
theorem shapeOfEachKind : Obligations.ShapeOfEachKind := by
  intro l k b
  rw [Slots.shape, applyRule_live, ruleOperands_types]

/-! ### The answer of a row (R115, R124) -/

/-- What `resolve_target` answers for kind `k` with mode bit `m` and displacement `d` (R84, R85, R124). -/
def targetOfKind (k : RuleKind) (m : Bool) (a d : Word) : Option Word :=
  match k with
  | .RDISP => if m then none else some (a + d)
  | .DISP => if m then some (a + d) else none
  | _ => none

/-- A rule's operands have a target for the two displacement kinds only, by the mode bit. -/
theorem resolveTarget_applyRule (a : Word) (mnemonic : String) (cls : InstrClass) (l : Layout)
    (k : RuleKind) (b : Bytes4) : resolveTarget a ⟨mnemonic, cls, applyRule l k b⟩ =
      targetOfKind k (selectedBit l b) a (sext18 b.b1 b.b3) := by
  have shape := shapeOfEachKind l k b
  rw [← scaledDisp_eq_sext18]
  simp only [resolveTarget, shape]
  cases k
  case RRM | CLZ | LDST | RDISP | DISP => cases selectedBit l b <;> rfl
  all_goals rfl

/-- Delivering an instruction is the ports of `afterOk` with its target. -/
theorem State.deliver_eq_afterOk (s : State) (d : DecodedInstr) :
    s.deliver d = s.afterOk d (resolveTarget s.currentAddress d) := rfl

/-- A row with an entry answers with the operands of the entry's kind and that kind's target. -/
theorem exec_answers {i : Instr} {opcode b1 b2 b3 : Byte} {app : Applicability} {mnemonic : String}
    {cls : InstrClass} {k : RuleKind} {ops : Slots} {t : Option Word} (s : State)
    (hentry : i.entry = some ⟨opcode, app, mnemonic, cls, k⟩)
    (hword : encode s.params i = ⟨opcode, b1, b2, b3⟩)
    (hops : fillSlots s.params.layout k Slots.allUnused ⟨opcode, b1, b2, b3⟩ = ops)
    (htarget : targetOfKind k (selectedBit s.params.layout ⟨opcode, b1, b2, b3⟩) s.currentAddress
      (sext18 b1 b3) = t) :
    exec i s = .next (s.afterOk ⟨mnemonic, cls, ops⟩ t) := by
  rw [exec_of_entry s hentry, hword, complete, State.deliver_eq_afterOk, resolveTarget_applyRule,
    htarget, applyRule, hops]

/-- Settles O50: each row answers with its kind's operands and target. -/
theorem attestedAndModeBitRowsAnswer : Obligations.AttestedAndModeBitRowsAnswer := by
  refine ⟨fun app mnemonic cls b1 b2 b3 s => ?attested, fun e b1 b2 b3 s => ?ofKind⟩
  case attested => exact exec_answers s rfl rfl (fillSlots_eq rfl) rfl
  case ofKind => and_intros <;> exact exec_answers s rfl rfl (fillSlots_eq rfl) rfl

end Sys2Proof.Machine
end

section
/-! The scan of the Catalog and `decode` as its answer (R105, R106, R111 to R119, R158). -/

namespace Sys2Proof

/-! ### The scan -/

/-- The scan reads its check at the variant presented only: checks that agree there scan alike. -/
theorem scan_congr_variant {compat compat' : Applicability → Option String → Bool}
    {v v' : Option String} (h : ∀ app, compat app v = compat' app v') (catalog : List CatalogEntry)
    (opcode : Byte) : scan compat catalog v opcode = scan compat' catalog v' opcode := by
  have sameMatches : entryMatches compat v opcode = entryMatches compat' v' opcode := by
    funext e
    rw [entryMatches, entryMatches, h]
  rw [scan, scan, sameMatches]

/-- Entries declared later are reached only where no earlier one matches (R105). -/
theorem scan_append (compat : Applicability → Option String → Bool)
    (first later : List CatalogEntry) (v : Option String) (opcode : Byte) :
    scan compat (first ++ later) v opcode =
      (scan compat first v opcode).or (scan compat later v opcode) :=
  List.find?_append

/-- An entry of the same opcode byte and applicability as an earlier one is never reached (R106). -/
theorem scan_duplicate (compat : Applicability → Option String → Bool)
    (before between after : List CatalogEntry) {e e' : CatalogEntry} (v : Option String)
    (opcode : Byte) (hopcode : e'.opcode = e.opcode) (happ : e'.app = e.app) :
    scan compat (before ++ e :: between ++ e' :: after) v opcode =
      scan compat (before ++ e :: between ++ after) v opcode := by
  have same : entryMatches compat v opcode e' = entryMatches compat v opcode e := by
    rw [entryMatches, entryMatches, hopcode, happ]
  rw [scan_append, scan_append compat (before ++ e :: between) after]
  cases hm : entryMatches compat v opcode e with
  | true =>
    have found : (scan compat (before ++ e :: between) v opcode).isSome := by
      rw [scan, List.find?_isSome]
      exact ⟨e, by simp, hm⟩
    rw [Option.or_of_isSome found, Option.or_of_isSome found]
  | false =>
    have skipped : scan compat (e' :: after) v opcode = scan compat after v opcode :=
      List.find?_cons_of_neg (by simp [same, hm])
    rw [skipped]

end Sys2Proof

namespace Sys2Proof.Machine

/-! ### `decode` by the answer it gives -/

/-- What `decode` answers for the bytes `b` once the scan has answered (R115, R116). -/
def answerOfScan (p : Params) (b : Bytes4) : Option CatalogEntry → DecodeResult
  | some e => .ok ⟨e.mnemonic, e.cls, applyRule p.layout e.rule b⟩
  | none => .err .unknownOpcode

/-- On valid inputs a word other than the literal is answered by the scan (R114 to R116). -/
theorem decodeWith_eq_answerOfScan (compat : Applicability → Option String → Bool) {p : Params}
    {buf : Bool} {n : Nat} {b : Bytes4} {v : Option String} {k : Bool}
    (valid : inputsValid p buf n v k) (hb : b ≠ p.nopLiteral) :
    decodeWith compat p buf n b v k = answerOfScan p b (scan compat p.catalog v b.b0) := by
  rw [← inputsOk_iff] at valid
  rcases decodeWith_cases compat p buf n b v k with
    ⟨hi, -⟩ | ⟨-, hn, -⟩ | ⟨-, -, e, hs, hd⟩ | ⟨-, -, hs, hd⟩
  · simp [valid] at hi
  · exact absurd hn hb
  · rw [hd, hs, answerOfScan]
  · rw [hd, hs, answerOfScan]

/-- `decode` answers `ok` on valid inputs: for the no-op literal, or with the scanned entry. -/
theorem decodeWith_eq_ok_iff {compat : Applicability → Option String → Bool} {p : Params}
    {buf : Bool} {n : Nat} {b : Bytes4} {v : Option String} {k : Bool} {d : DecodedInstr} :
    decodeWith compat p buf n b v k = .ok d ↔ inputsValid p buf n v k ∧
      ((b = p.nopLiteral ∧ d = ⟨p.nopMnemonic, .nop, Slots.allUnused⟩) ∨
        (b ≠ p.nopLiteral ∧ ∃ e, scan compat p.catalog v b.b0 = some e ∧
          d = ⟨e.mnemonic, e.cls, applyRule p.layout e.rule b⟩)) := by
  rw [← inputsOk_iff]
  rcases decodeWith_cases compat p buf n b v k with
    ⟨hi, hd⟩ | ⟨hi, hb, hd⟩ | ⟨hi, hb, e, hs, hd⟩ | ⟨hi, hb, hs, hd⟩
  · simp [hd, hi]
  · rw [hd]; simp [hi, hb, eq_comm]
  · simp [hd, hi, hb, hs, eq_comm]
  · simp [hd, hi, hb, hs]

/-- `decode` answers `UnknownOpcode` on valid inputs that are not the literal and match no entry. -/
theorem decodeWith_eq_unknownOpcode_iff {compat : Applicability → Option String → Bool}
    {p : Params} {buf : Bool} {n : Nat} {b : Bytes4} {v : Option String} {k : Bool} :
    decodeWith compat p buf n b v k = .err .unknownOpcode ↔
      inputsValid p buf n v k ∧ b ≠ p.nopLiteral ∧ scan compat p.catalog v b.b0 = none := by
  rw [← inputsOk_iff]
  rcases decodeWith_cases compat p buf n b v k with
    ⟨hi, hd⟩ | ⟨hi, hb, hd⟩ | ⟨hi, hb, e, hs, hd⟩ | ⟨hi, hb, hs, hd⟩
  · simp [hd, hi]
  · rw [hd]; simp [hb]
  · simp [hd, hi, hb, hs]
  · simp [hd, hi, hb, hs]

/-- `decode` reads the check, the Catalog and the variant through validation and the scan
only. Of two parameters that differ in the Catalog alone, `p'` is `p` with its own Catalog. -/
theorem decodeWith_congr {compat compat' : Applicability → Option String → Bool} {p p' : Params}
    {buf : Bool} {n : Nat} {b : Bytes4} {v v' : Option String} {k : Bool}
    (hp : p' = { p with catalog := p'.catalog })
    (hv : variantOk p.variantMinLen v = variantOk p.variantMinLen v')
    (hs : scan compat p.catalog v b.b0 = scan compat' p'.catalog v' b.b0) :
    decodeWith compat p buf n b v k = decodeWith compat' p' buf n b v' k := by
  rw [hp]
  simp only [decodeWith, hv, hs]

/-- Settles O10: the first match is what the scan answers, and no match is the scan's `none`. -/
theorem dispatcherTakesTheFirstMatch : Obligations.DispatcherTakesTheFirstMatch := by
  intro compat p len b v valid notLiteral
  rw [decodeWith_eq_answerOfScan compat valid notLiteral]
  constructor
  · intro before after e hcatalog noEarlier hopcode hcompat
    rw [scan_eq_some_iff.2 ⟨hopcode, hcompat, before, after, hcatalog, noEarlier⟩, answerOfScan]
  · intro noMatch
    rw [scan_eq_none_iff.2 noMatch, answerOfScan]

/-- Settles O13: the scan answers `none` exactly when no entry matches. -/
theorem unknownOpcodeExactly : Obligations.UnknownOpcodeExactly := by
  intro compat p buf len b v sink
  rw [decodeWith_eq_unknownOpcode_iff, scan_eq_none_iff]

/-- Settles O14: a scan that has found an entry does not look further, and an entry equal to an
earlier one in opcode byte and applicability is never what it finds. -/
theorem laterEntriesNeverMatter : Obligations.LaterEntriesNeverMatter := by
  intro compat p buf len b v sink
  constructor
  · intro more d h
    obtain ⟨valid, answer⟩ := decodeWith_eq_ok_iff.1 h
    refine decodeWith_eq_ok_iff.2 ⟨valid, answer.imp_right ?_⟩
    rintro ⟨notLiteral, e, scanned, hd⟩
    exact ⟨notLiteral, e, by rw [scan_append, scanned, Option.some_or], hd⟩
  · intro before between after e e' hopcode happ
    exact decodeWith_congr rfl rfl
      (scan_duplicate compat before between after v b.b0 hopcode happ)

/-- Settles O11: the literal is looked at before the Catalog; equal word views are equal bytes. -/
theorem noOpLiteralIsCheckedFirst : Obligations.NoOpLiteralIsCheckedFirst := by
  intro compat p len v valid
  refine ⟨decodeWith_eq_ok_iff.2 ⟨valid, .inl ⟨rfl, rfl⟩⟩, fun b hb => ?_⟩
  rw [decodeWith_eq_answerOfScan compat valid fun h => hb (congrArg Bytes4.toWord h)]
  cases scan compat p.catalog v b.b0 <;> rfl

/-! ### The ROM view (R118) -/

/-- The ROM has a word for every opcode byte, and it holds what the scan of that byte answers. -/
theorem getElem?_romView (compat : Applicability → Option String → Bool)
    (catalog : List CatalogEntry) (v : Option String) (x : Byte) :
    (romView compat catalog v)[x.toNat]? = some (scan compat catalog v x) := by
  simp [romView, List.getElem?_range x.isLt]

/-- Settles O15: each word of the ROM is the scan of its own address. -/
theorem romViewHoldsTheScan : Obligations.RomViewHoldsTheScan := by
  intro compat p v
  refine ⟨by simp [romView], fun x e => ?_, fun x => ?_, fun len b valid notLiteral => ?_⟩
  · rw [getElem?_romView, Option.some.injEq, scan_eq_some_iff]
  · rw [getElem?_romView, Option.some.injEq, scan_eq_none_iff]
  · rw [decodeWith_eq_answerOfScan compat valid notLiteral, getElem?_romView]
    cases scan compat p.catalog v b.b0 <;> rfl

end Sys2Proof.Machine
end

section
/-! The compatibility check (R110, D5): what the parameter answers by label and gated, that it takes
every answer on a finite list of variants, and dispatch that does not read the variant (R119). -/

namespace Sys2Proof

@[simp] theorem Compat.admits_any (c : Compat) (v : Option String) : c.admits .any v = true := rfl

@[simp] theorem Compat.byLabel_admits_familyA (x y : Bool) (v : Option String) :
    (Compat.byLabel x y).admits .familyA v = x := rfl

@[simp] theorem Compat.byLabel_admits_familyB (x y : Bool) (v : Option String) :
    (Compat.byLabel x y).admits .familyB v = y := rfl

/-- By label the check does not read the variant (R110 (b)). -/
theorem Compat.byLabel_admits_congr (x y : Bool) (app : Applicability) (v v' : Option String) :
    (Compat.byLabel x y).admits app v = (Compat.byLabel x y).admits app v' := by
  cases app <;> rfl

/-- The list of a gated check answers for the variants the table names, by their families. -/
theorem Compat.lookup_gated_check (table : List (String × Family)) (f : Family)
    (v : Option String) : (Compat.gated.check table f).listed.lookup v =
      (v.bind fun n => table.lookup n).map fun g => decide (g = f) := by
  simp only [Compat.gated.check]
  induction table with
  | nil => cases v <;> rfl
  | cons r rest ih =>
    obtain ⟨m, g⟩ := r
    cases v with
    | none => simpa [List.lookup_cons] using ih
    | some n =>
      by_cases h : n = m
      · simp [List.lookup_cons, h]
      · simpa [List.lookup_cons, beq_eq_false_iff_ne.2 h] using ih

/-- A gated check of a family admits the variants the table gives that family, no other (D5). -/
theorem Compat.gated_check_admits_iff (table : List (String × Family)) (f : Family)
    (v : Option String) :
    (Compat.gated.check table f).admits f v = true ↔ (v.bind fun n => table.lookup n) = some f := by
  rw [FamilyCheck.admits, Compat.lookup_gated_check]
  cases (v.bind fun n => table.lookup n) <;> simp [Compat.gated.check]

/-- An entry's family decides its applicability and the other way round (R109). -/
theorem Family.app_inj {f g : Family} : f.app = g.app ↔ f = g := by
  cases f <;> cases g <;> decide

/-- Gated, an entry of family `f` is compatible with the variants of `f`, no other (D5). -/
theorem Compat.gated_admits_app_iff (table : List (String × Family)) (f : Family)
    (v : Option String) :
    (Compat.gated table).admits f.app v = true ↔ (v.bind fun n => table.lookup n) = some f := by
  rw [← Compat.gated_check_admits_iff]
  cases f <;> rfl

/-- The check of a family that answers as `check` for the variants listed. -/
def FamilyCheck.ofAnswers (check : Option String → Bool) (variants : List (Option String)) :
    FamilyCheck :=
  ⟨variants.map fun v => (v, check v), .always false⟩

theorem FamilyCheck.ofAnswers_admits (check : Option String → Bool)
    {variants : List (Option String)} {v : Option String} (f : Family) (h : v ∈ variants) :
    (FamilyCheck.ofAnswers check variants).admits f v = check v := by
  simp only [FamilyCheck.admits, FamilyCheck.ofAnswers, List.lookup_graph check h]

end Sys2Proof

namespace Sys2Proof.Machine

/-- Settles O17: each check answers from its list, which for a gated one is the table of families and
can be the graph of any check on finitely many variants. -/
theorem compatibilityOfEntries : Obligations.CompatibilityOfEntries := by
  refine ⟨fun c v => c.admits_any v, fun x y v => ⟨?_, ?_⟩, fun table app v => ?gated,
    fun check variants hany => ?reach⟩
  · exact Compat.byLabel_admits_familyA x y v
  · exact Compat.byLabel_admits_familyB x y v
  case gated =>
    have family (f : Family) : (Compat.gated table).admits f.app v = true ↔
        f.app = .any ∨ ∃ n g, v = some n ∧ table.lookup n = some g ∧ g.app = f.app := by
      have notAny : f.app ≠ .any := by cases f <;> decide
      simp [Compat.gated_admits_app_iff, Option.bind_eq_some_iff, notAny, Family.app_inj]
    cases app with
    | any => simp
    | familyA => exact family .familyA
    | familyB => exact family .familyB
  case reach =>
    refine ⟨⟨.ofAnswers (check .familyA) variants, .ofAnswers (check .familyB) variants⟩,
      fun app v hv => ?_⟩
    cases app with
    | any => rw [Compat.admits_any, hany]
    | familyA => exact FamilyCheck.ofAnswers_admits (check .familyA) .familyA hv
    | familyB => exact FamilyCheck.ofAnswers_admits (check .familyB) .familyB hv

/-- Settles O16: two variants that pass validation differ for `decode` only through the check. -/
theorem variantDoesNotGateTheDispatch : Obligations.VariantDoesNotGateTheDispatch := by
  refine ⟨fun compat ungated p buf len b v v' sink hv hv' => ?_, Compat.byLabel_admits_congr⟩
  have bothPass : variantOk p.variantMinLen v = variantOk p.variantMinLen v' := by
    rw [(variantOk_iff _ v).2 hv, (variantOk_iff _ v').2 hv']
  exact decodeWith_congr rfl bothPass
    (scan_congr_variant (fun app => ungated app v v') p.catalog b.b0)

end Sys2Proof.Machine
end

section
/-! The attested buffers (R107, R108), the step as `decode` of its inputs (R111), and what the rows
without a mode bit answer (R113, R115). -/

namespace Sys2Proof.Machine

/-! ### The attested buffers -/

/-- What R107 and R108 ask: the entry selected for 0x14 has kind RRM, and neither attested buffer is
the literal. -/
theorem attested_of_paramsMeetSpec {p : Params} (h : paramsMeetSpec p = true) :
    (∃ e, scan p.compat.admits p.catalog none 0x14 = some e ∧ e.rule = .RRM) ∧
      ∀ b3 ∈ [(0x03 : Byte), 0x83], (⟨0x14, 0x01, 0x02, b3⟩ : Bytes4) ≠ p.nopLiteral := by
  simp only [paramsMeetSpec, Bool.and_eq_true, Option.any_eq_true, bne_iff_ne, beq_iff_eq] at h
  obtain ⟨⟨⟨selected, not03⟩, not83⟩, -⟩ := h
  exact ⟨selected, by simpa using ⟨not03.symm, not83.symm⟩⟩

/-- The selected bit of a word depends on `M_SEL` alone (R78). -/
theorem selectedBit_congr {l l' : Layout} (h : l.mSel = l'.mSel) (b : Bytes4) :
    selectedBit l b = selectedBit l' b := by
  rw [selectedBit, selectedBit, h]

/-- Settles O18: both buffers are looked up, and the entry selected for 0x14 has kind RRM. -/
theorem attestedBuffersDecode : Obligations.AttestedBuffersDecode := by
  intro p meets
  obtain ⟨⟨e, selected, rule⟩, notLiteral⟩ := attested_of_paramsMeetSpec meets
  have valid : inputsValid p true 4 none true := ⟨rfl, le_rfl, rfl, by simp⟩
  have decoded : ∀ b3 ∈ [(0x03 : Byte), 0x83],
      decodeWith p.compat.admits p true 4 ⟨0x14, 0x01, 0x02, b3⟩ none true =
        .ok ⟨e.mnemonic, e.cls, ⟨regOp 1, regOp 2,
          regOrImmOp (selectedBit p.layout ⟨0x14, 0x01, 0x02, b3⟩) b3,
          unusedOp, unusedOp, unusedOp⟩⟩ := by
    intro b3 hb3
    have slots := (modeBitAndDisplacementKinds p.layout Slots.allUnused 0x14 0x01 0x02 b3).1
    rw [decodeWith_eq_answerOfScan _ valid (notLiteral b3 hb3), selected, answerOfScan, rule,
      applyRule, slots]
  refine ⟨e.mnemonic, e.cls, decoded, fun hsel => ?_⟩
  have immediate (b3 : Byte) : regOrImmOp (selectedBit p.layout ⟨0x14, 0x01, 0x02, b3⟩) b3 =
      immOp b3 := by
    have lowBit : (0x01 : Byte).getLsbD 0 = true := by decide
    rw [selectedBit_congr hsel, ← modeBit_eq_selectedBit, modeBit_specLayout, lowBit, regOrImmOp,
      if_pos rfl]
  constructor
  · rw [decoded 0x03 (by simp), immediate]
  · rw [decoded 0x83 (by simp), immediate]

/-! ### The step -/

/-- Raising an error is the ports of `afterErr`. -/
theorem State.raise_eq_afterErr (s : State) (e : DecodeError) : s.raise e = s.afterErr e := rfl

/-- On valid inputs the fetch is the decoding of the four bytes (R112, R162). -/
theorem State.fetchInstr_of_valid {s : State}
    (h : inputsValid s.params s.bufPresent s.len s.cpuVariant s.sinkPresent) :
    s.fetchInstr = decodeWord s.params s.cpuVariant s.bytes :=
  if_pos ((inputsOk_iff _ _ _ _ _).2 h)

/-- A variant that is well formed stays when a word is presented. -/
theorem State.presentWord_cpuVariant_of_ok {s : State} (b : Bytes4)
    (h : ∀ v, s.cpuVariant = some v → s.params.variantMinLen ≤ v.length) :
    (s.presentWord b).cpuVariant = s.cpuVariant :=
  if_pos ((variantOk_iff _ _).2 h)

/-- Settles O35: on valid inputs the fetch is the decoding, and the step runs what is fetched. -/
theorem stepRunsTheDecodedInstruction : Obligations.StepRunsTheDecodedInstruction := by
  refine ⟨fun s i request valid decoded => ?_, fun s e request valid decoded => ?_,
    fun s nbits w i hv decoded => ?_⟩
  · exact step_of_fetch_ok request ((State.fetchInstr_of_valid valid).trans decoded)
  · rw [step_of_fetch_error request ((State.fetchInstr_of_valid valid).trans decoded),
      State.raise_eq_afterErr]
  · refine step_of_fetch_ok (State.presentWord_request s _) ?_
    rw [State.withFetchWord, State.fetchInstr_presentWord, State.presentWord_cpuVariant_of_ok _ hv,
      decoded]

/-- Settles O43: the step through the rows is `decode` of the inputs, and `decode` reads the check at
the variant presented only. -/
theorem stepIsDecodeOfTheInputs : Obligations.StepIsDecodeOfTheInputs := by
  intro s check request agrees
  have sameResult : decodeWith check s.params s.bufPresent s.len s.bytes s.cpuVariant
      s.sinkPresent = s.decodeResult := decodeWith_congr rfl rfl (scan_congr agrees)
  rw [sameResult, step_of_decode request]
  cases s.decodeResult with
  | ok d => rw [State.answer_ok, State.deliver_eq_afterOk]
  | err e => rw [State.answer_err, State.raise_eq_afterErr]

/-! ### The rows -/

/-- Settles O44: the meaning of a row with an entry is the entry's, delivered to the consumers. -/
theorem meaningCopiesItsEntry : Obligations.MeaningCopiesItsEntry := by
  intro i e s entry
  rw [exec_of_entry s entry, complete, State.deliver_eq_afterOk]

/-- An instruction without operands has no target (R125). -/
theorem resolveTarget_allUnused (a : Word) (mnemonic : String) (cls : InstrClass) :
    resolveTarget a ⟨mnemonic, cls, Slots.allUnused⟩ = none := rfl

/-- Settles O49: the row delivers the no-op, which has no operands and so no target. -/
theorem noOpLiteralRowAnswers : Obligations.NoOpLiteralRowAnswers := by
  intro s
  have meaning : exec .nopLiteral s =
      .next (s.deliver ⟨s.params.nopMnemonic, .nop, Slots.allUnused⟩) := rfl
  rw [meaning, State.deliver_eq_afterOk, resolveTarget_allUnused]
  rfl

/-- Settles O51: each row answers with its kind's operands, and no such kind has a target. -/
theorem otherKindRowsAnswer : Obligations.OtherKindRowsAnswer := by
  intro e b1 b2 b3 s
  and_intros <;> exact exec_answers s rfl rfl (fillSlots_eq rfl) rfl

end Sys2Proof.Machine
end

section
/-! The control-flow resolver (R122 to R129): which operands have a target, the targets of the results of
`decode`, and the return-equivalent test. -/

namespace Sys2Proof.Machine

/-! ### The two resolvable shapes (R123, R124) -/

/-- The shape is the types of the slots before the first `Unused` one (R75). -/
theorem Slots.shape_eq_takeWhile (ops : Slots) : ops.shape =
    [(ops.get 0).type, (ops.get 1).type, (ops.get 2).type, (ops.get 3).type, (ops.get 4).type,
      (ops.get 5).type].takeWhile (· != .unused) := by
  rw [shape, live, ← Function.comp_def (· != SemType.unused) Operand.type, ← List.takeWhile_map]
  rfl

/-- The types before the first `Unused` one begin with `u` exactly when the first slot has that type. -/
theorem takeWhile_used_eq_cons_iff {t u : SemType} {l m : List SemType} (hu : u ≠ .unused) :
    (t :: l).takeWhile (· != .unused) = u :: m ↔ t = u ∧ l.takeWhile (· != .unused) = m := by
  by_cases h : t = .unused
  · simp [h, hu.symm]
  · simp [h]

/-- No type stands before the first `Unused` one exactly when the first slot is `Unused`. -/
theorem takeWhile_used_eq_nil_iff {t : SemType} {l : List SemType} :
    (t :: l).takeWhile (· != .unused) = [] ↔ t = .unused := by
  simp [List.takeWhile_eq_nil_iff]

/-- R123, the first shape: a displacement in slot 0, and slot 1 is `Unused`. -/
theorem Slots.shape_eq_displacement_iff (ops : Slots) : ops.shape = [.jumpDisplacement] ↔
    (ops.get 0).type = .jumpDisplacement ∧ (ops.get 1).type = .unused := by
  rw [shape_eq_takeWhile, takeWhile_used_eq_cons_iff (by decide), takeWhile_used_eq_nil_iff]

/-- R123, the second shape: a register in slot 0, a displacement in slot 1, and slot 2 is `Unused`. -/
theorem Slots.shape_eq_register_displacement_iff (ops : Slots) :
    ops.shape = [.register, .jumpDisplacement] ↔ (ops.get 0).type = .register ∧
      (ops.get 1).type = .jumpDisplacement ∧ (ops.get 2).type = .unused := by
  rw [shape_eq_takeWhile, takeWhile_used_eq_cons_iff (by decide),
    takeWhile_used_eq_cons_iff (by decide), takeWhile_used_eq_nil_iff]

/-- A target is resolved exactly for the two shapes, by adding the displacement (R124). -/
theorem resolveTarget_eq_some_iff {a t : Word} {d : DecodedInstr} : resolveTarget a d = some t ↔
    (d.ops.shape = [.jumpDisplacement] ∧ t = a + (d.ops.get 0).value) ∨
      (d.ops.shape = [.register, .jumpDisplacement] ∧ t = a + (d.ops.get 1).value) := by
  refine ⟨resolveTarget_cases, ?_⟩
  rintro (⟨shape, rfl⟩ | ⟨shape, rfl⟩) <;> simp only [resolveTarget, shape]

/-- Addition of words is addition of numbers modulo 2^32 (R124). -/
theorem word_eq_add_iff (t a v : Word) : t = a + v ↔ t.toNat = (a.toNat + v.toNat) % 2 ^ 32 := by
  rw [← BitVec.toNat_inj, BitVec.toNat_add]

/-- Settles O19: the two shapes spelled out by slots. -/
theorem targetExactlyForTwoShapes : Obligations.TargetExactlyForTwoShapes := by
  intro a t d
  rw [resolveTarget_eq_some_iff, Slots.shape_eq_displacement_iff,
    Slots.shape_eq_register_displacement_iff, word_eq_add_iff, word_eq_add_iff]
  simp only [and_assoc]

/-! ### Targets of the results of `decode` (R125, R129) -/

/-- Settles O20: only `DISP` and `RDISP` can have a target, with opposite polarity of the mode bit. -/
theorem decodedTargetsComeFromTwoKinds : Obligations.DecodedTargetsComeFromTwoKinds := by
  intro l mnemonic cls k b a t
  rw [resolveTarget_applyRule]
  cases k
  case DISP | RDISP => cases selectedBit l b <;> simp [targetOfKind, eq_comm]
  all_goals simp [targetOfKind]

/-- A result of `decode` that has a target was given by an entry of one of the two displacement kinds, and
the target is the address plus the word's displacement. -/
theorem decodeWith_target {compat : Applicability → Option String → Bool} {p : Params} {buf : Bool}
    {n : Nat} {b : Bytes4} {v : Option String} {k : Bool} {d : DecodedInstr} {a t : Word}
    (decoded : decodeWith compat p buf n b v k = .ok d) (target : resolveTarget a d = some t) :
    t = a + sext18 b.b1 b.b3 ∧ ∃ e ∈ p.catalog, (e.rule = .DISP ∨ e.rule = .RDISP) ∧
      d = ⟨e.mnemonic, e.cls, applyRule p.layout e.rule b⟩ := by
  obtain ⟨-, ⟨-, rfl⟩ | ⟨-, e, scanned, rfl⟩⟩ := decodeWith_eq_ok_iff.1 decoded
  · simp [resolveTarget_allUnused] at target
  · obtain ⟨kinds, sum⟩ := (decodedTargetsComeFromTwoKinds ..).1 target
    exact ⟨sum, e, List.mem_of_find?_eq_some scanned, kinds.imp And.left And.left, rfl⟩

/-- Adding a multiple of 4, read as signed, keeps the residue modulo 4: 2^32 is one too (R129). -/
theorem add_toNat_mod_four (a : Word) {v : Word} (h : v.toInt % 4 = 0) :
    (a + v).toNat % 4 = a.toNat % 4 := by
  rw [BitVec.toInt_eq_toNat_cond] at h
  rw [BitVec.toNat_add]
  split at h <;> omega

/-- Settles O21: the target less the address is the displacement, a multiple of 4 in its range. -/
theorem targetsKeepTheAddressResidue : Obligations.TargetsKeepTheAddressResidue := by
  intro compat p bufPresent len b v sinkPresent d a t decoded target
  obtain ⟨rfl, -⟩ := decodeWith_target decoded target
  obtain ⟨aligned, range⟩ := scaledDisp_range b
  rw [scaledDisp_eq_sext18] at aligned range
  have difference : a + sext18 b.b1 b.b3 - a = sext18 b.b1 b.b3 := by
    rw [BitVec.add_comm, BitVec.add_sub_cancel]
  exact ⟨add_toNat_mod_four a aligned, by rwa [difference]⟩

/-! ### The return-equivalent test (R126, R127) -/

/-- The test is the mnemonic and the link register's number in slots 0 and 1 (R126, D24). -/
theorem isReturnEquivalent_iff {icall : String} {d : DecodedInstr} :
    isReturnEquivalent icall d = true ↔
      d.mnemonic = icall ∧ (d.ops.get 0).value = 128 ∧ (d.ops.get 1).value = 128 := by
  simp [isReturnEquivalent, linkRegValue, and_assoc]

/-- A byte read as a register number is the link register's exactly when it is 0x80. -/
theorem regOp_value_eq_linkReg_iff {v : Byte} : (regOp v).value = 128 ↔ v = 0x80 :=
  setWidth_inj (n := 32) (v' := (0x80 : Byte)) (by decide)

/-- Settles O22: kind `ICALL` puts bytes 2 and 3 in the two slots the test compares. -/
theorem returnEquivalentExactly : Obligations.ReturnEquivalentExactly := by
  refine ⟨fun icall d => isReturnEquivalent_iff, fun l icall cls b => ?_⟩
  have slots := (sourceWordedRegisterKinds l Slots.allUnused b.b0 b.b1 b.b2 b.b3).1
  rw [isReturnEquivalent_iff, applyRule, slots]
  simp only [Slots.get, regOp_value_eq_linkReg_iff, true_and]

/-- Kind `DISP` leaves slot 1 unused, so its operands never pass the test (R85). -/
theorem not_isReturnEquivalent_applyRule_DISP {icall mnemonic : String} {cls : InstrClass}
    {l : Layout} {b : Bytes4} :
    ¬ isReturnEquivalent icall ⟨mnemonic, cls, applyRule l .DISP b⟩ = true := by
  intro equivalent
  obtain ⟨-, -, linkReg⟩ := isReturnEquivalent_iff.1 equivalent
  have sentinel : ((applyRule l .DISP b).get 1).value = 0 := rfl
  exact absurd (sentinel.symm.trans linkReg) (by decide)

/-- Settles O23: an instruction with a target has kind `DISP`, which the test never accepts, or kind `RDISP`,
which the premise keeps from the indirect-call mnemonic. -/
theorem returnEquivalentNeverResolves : Obligations.ReturnEquivalentNeverResolves := by
  intro compat p bufPresent len b v sinkPresent d a noRDISP decoded equivalent
  rw [Option.eq_none_iff_forall_ne_some]
  intro t target
  obtain ⟨-, ⟨opcode, app, mnemonic, cls, rule⟩, listed, rfl | rfl, rfl⟩ :=
    decodeWith_target decoded target
  · exact not_isReturnEquivalent_applyRule_DISP equivalent
  · exact noRDISP _ listed (isReturnEquivalent_iff.1 equivalent).1 rfl

end Sys2Proof.Machine
end

section
/-! The text of numbers and registers (R132, R133, R147, R148): what the digits stand for, and that
different values print differently. -/

namespace Sys2Proof.Machine

/-! ### Digits -/

/-- The number of a digit's character is the digit, up to hexadecimal. -/
theorem digitValue_digitChar : ∀ d < 16, digitValue d.digitChar = d := by decide

theorem readDigits_concat (base : Nat) (l : List Char) (c : Char) :
    readDigits base (l ++ [c]) = readDigits base l * base + digitValue c := by
  simp [readDigits]

/-- The digits of a number with two or more of them: those of all but the last, then the last. -/
theorem toDigits_concat {base m d : Nat} (hb : 1 < base) (hm : 0 < m) (hd : d < base) :
    Nat.toDigits base (base * m + d) = Nat.toDigits base m ++ [d.digitChar] := by
  rw [← Nat.toDigits_append_toDigits hb hm hd, Nat.toDigits_of_lt_base hd]

/-- The digits of a number read back to it, in every base up to hexadecimal (R133, R147). -/
theorem readDigits_toDigits {base : Nat} (hb : 1 < base) (h16 : base ≤ 16) (n : Nat) :
    readDigits base (Nat.toDigits base n) = n := by
  induction n using Nat.base_induction base hb with
  | single d hd =>
    rw [Nat.toDigits_of_lt_base hd]
    simp [readDigits, digitValue_digitChar d (hd.trans_le h16)]
  | digit m d hd hm ih =>
    rw [toDigits_concat hb hm hd, readDigits_concat, ih, digitValue_digitChar d (hd.trans_le h16),
      Nat.mul_comm]

/-- A number is written with the characters of the digits of its base. -/
theorem toDigits_subset {base : Nat} (hb : 1 < base) {alphabet : List Char}
    (h : ∀ d < base, d.digitChar ∈ alphabet) (n : Nat) : Nat.toDigits base n ⊆ alphabet := by
  induction n using Nat.base_induction base hb with
  | single d hd =>
    rw [Nat.toDigits_of_lt_base hd]
    exact List.cons_subset.2 ⟨h d hd, List.nil_subset _⟩
  | digit m d hd hm ih =>
    rw [toDigits_concat hb hm hd]
    exact List.append_subset.2 ⟨ih, List.cons_subset.2 ⟨h d hd, List.nil_subset _⟩⟩

/-- Only 0 has a leading zero (R133, R148). -/
theorem eq_zero_of_head?_toDigits {base : Nat} (hb : 1 < base) {n : Nat}
    (h : (Nat.toDigits base n).head? = some '0') : n = 0 := by
  induction n using Nat.base_induction base hb with
  | single d hd => simpa [Nat.toDigits_of_lt_base hd] using h
  | digit m d hd hm ih =>
    rw [toDigits_concat hb hm hd, List.head?_append_of_ne_nil _ Nat.toDigits_ne_nil] at h
    exact absurd (ih h) hm.ne'

@[simp] theorem readDigits_decText (n : Nat) : readDigits 10 (decText n).toList = n := by
  rw [decText, String.toList_ofList, readDigits_toDigits (by decide) (by decide)]

@[simp] theorem readDigits_hexText (n : Nat) : readDigits 16 (hexText n).toList = n := by
  rw [hexText, String.toList_ofList, readDigits_toDigits (by decide) (by decide)]

/-- Different numbers have different decimal texts. -/
@[simp] theorem decText_inj {n m : Nat} : decText n = decText m ↔ n = m :=
  ⟨fun h => by simpa using congrArg (fun t => readDigits 10 t.toList) h, congrArg decText⟩

/-- Different numbers have different hexadecimal texts. -/
@[simp] theorem hexText_inj {n m : Nat} : hexText n = hexText m ↔ n = m :=
  ⟨fun h => by simpa using congrArg (fun t => readDigits 16 t.toList) h, congrArg hexText⟩

theorem decText_chars (n : Nat) : ∀ c ∈ (decText n).toList, c ∈ "0123456789".toList := by
  rw [decText, String.toList_ofList]
  exact toDigits_subset (by decide) (by decide) n

theorem hexText_chars (n : Nat) : ∀ c ∈ (hexText n).toList, c ∈ "0123456789abcdef".toList := by
  rw [hexText, String.toList_ofList]
  exact toDigits_subset (by decide) (by decide) n

theorem decText_of_leading_zero {n : Nat} (h : (decText n).toList.head? = some '0') :
    decText n = "0" := by
  rw [decText, String.toList_ofList] at h
  rw [eq_zero_of_head?_toDigits (by decide) h]
  rfl

theorem hexText_of_leading_zero {n : Nat} (h : (hexText n).toList.head? = some '0') :
    hexText n = "0" := by
  rw [hexText, String.toList_ofList] at h
  rw [eq_zero_of_head?_toDigits (by decide) h]
  rfl

/-! ### Immediates and addresses (R147, R148) -/

/-- A non-negative immediate prints its unsigned value (R147). -/
theorem immText_of_nonneg {v : Word} (h : 0 ≤ v.toInt) : immText v = "0x" ++ hexText v.toNat := by
  have value : v.toInt.toNat = v.toNat := by
    rw [BitVec.toInt_eq_toNat_cond] at h ⊢
    split at h <;> omega
  rw [immText, if_pos h, value]

/-- A negative immediate prints a sign and its distance below 2^32 (R147). -/
theorem immText_of_neg {v : Word} (h : v.toInt < 0) :
    immText v = "-0x" ++ hexText (2 ^ 32 - v.toNat) := by
  have magnitude : (-v.toInt).toNat = 2 ^ 32 - v.toNat := by
    rw [BitVec.toInt_eq_toNat_cond] at h ⊢
    split at h <;> omega
  rw [immText, if_neg h.not_ge, magnitude]

/-- The sign is the first character, so no text is both that of a negative and of another value. -/
theorem signed_ne_unsigned (s t : String) : "-0x" ++ s ≠ "0x" ++ t := by
  intro h
  simpa using congrArg (fun text => text.toList.head?) h

/-- Different values print differently as immediates (R147). -/
theorem immText_injective {v v' : Word} (h : immText v = immText v') : v = v' := by
  rcases lt_or_ge v.toInt 0 with neg | nonneg <;> rcases lt_or_ge v'.toInt 0 with neg' | nonneg'
  · rw [immText_of_neg neg, immText_of_neg neg', String.append_right_inj, hexText_inj] at h
    exact BitVec.eq_of_toNat_eq (by omega)
  · rw [immText_of_neg neg, immText_of_nonneg nonneg'] at h
    exact absurd h (signed_ne_unsigned _ _)
  · rw [immText_of_nonneg nonneg, immText_of_neg neg'] at h
    exact absurd h.symm (signed_ne_unsigned _ _)
  · rw [immText_of_nonneg nonneg, immText_of_nonneg nonneg', String.append_right_inj,
      hexText_inj] at h
    exact BitVec.eq_of_toNat_eq h

/-- Different addresses print differently (R148). -/
theorem addrText_injective {a a' : Word} (h : addrText a = addrText a') : a = a' := by
  rw [addrText, addrText, String.append_right_inj, hexText_inj] at h
  exact BitVec.eq_of_toNat_eq h

/-- Settles O26: digits read back by induction on their number, so equal texts of the same sign are those of
the same value, and no signed text is an unsigned one. -/
theorem numberTextReadsBack : Obligations.NumberTextReadsBack :=
  ⟨fun n => ⟨readDigits_decText n, readDigits_hexText n, decText_chars n, hexText_chars n,
      decText_of_leading_zero, hexText_of_leading_zero⟩,
    fun _ => ⟨rfl, immText_of_nonneg, immText_of_neg⟩,
    fun _ _ => ⟨immText_injective, addrText_injective⟩⟩

/-! ### Registers (R132, R133) -/

/-- The mapper: global indices run from 0 to 127, local ones from 1 to 128 (R132). -/
theorem mapReg_eq_some_iff {v : Word} {space : RegNamespace} {index : Nat} :
    mapReg v = some (space, index) ↔
      (space = .gr ∧ index ≤ 127 ∧ v.toNat = index) ∨
      (space = .lr ∧ 1 ≤ index ∧ index ≤ 128 ∧ v.toNat = index + 127) := by
  simp only [mapReg, localBase, regSpace, localDisplayOffset]
  cases space <;> split_ifs <;> simp <;> omega

/-- A register's text is the tag of its namespace and the displayed index (R133). -/
theorem regText_of_mapReg {v : Word} {space : RegNamespace} {index : Nat}
    (h : mapReg v = some (space, index)) : regText v = some (space.tag ++ decText index) := by
  rw [regText, h, Option.map_some]

/-- A tag and an index can be told from their text: the tags differ in their first letter (R12). -/
theorem tag_decText_inj {space space' : RegNamespace} {index index' : Nat} :
    space.tag ++ decText index = space'.tag ++ decText index' ↔ space = space' ∧ index = index' := by
  refine ⟨fun h => ?_, fun ⟨hs, hi⟩ => hs ▸ hi ▸ rfl⟩
  have letter := congrArg (fun text => text.toList.head?) h
  have same : space = space' := by
    cases space <;> cases space' <;> simp [RegNamespace.tag] at letter ⊢
  subst same
  exact ⟨rfl, decText_inj.1 ((String.append_right_inj _).1 h)⟩

/-- The offset merges no two registers: a namespace and an index are given for one number only (R12). -/
theorem mapReg_injective {v v' : Word} {r : RegNamespace × Nat} (h : mapReg v = some r)
    (h' : mapReg v' = some r) : v = v' := by
  obtain ⟨space, index⟩ := r
  rw [mapReg_eq_some_iff] at h h'
  apply BitVec.eq_of_toNat_eq
  cases space <;> simp at h h' <;> omega

/-- Settles O24: the mapper's two ranges, its refusal above them, and the text of what it gives. -/
theorem registerNames : Obligations.RegisterNames := by
  refine ⟨fun v => ⟨fun low => ?globals, fun from128 to255 => ?locals, fun high => ?refused⟩, ?samples⟩
  case globals =>
    have mapped : mapReg v = some (.gr, v.toNat) := mapReg_eq_some_iff.2 (.inl ⟨rfl, low, rfl⟩)
    exact ⟨mapped, regText_of_mapReg mapped⟩
  case locals =>
    have mapped : mapReg v = some (.lr, v.toNat - 127) :=
      mapReg_eq_some_iff.2 (.inr ⟨rfl, by omega, by omega, by omega⟩)
    exact ⟨mapped, regText_of_mapReg mapped⟩
  case refused =>
    have unmapped : mapReg v = none := (mapReg_eq_none_iff v).2 high
    exact ⟨unmapped, by rw [regText, unmapped, Option.map_none]⟩
  case samples => and_intros <;> rfl

/-- Settles O25: equal texts have equal tags and indices, and these give the register number back. -/
theorem registerNamesAreDistinct : Obligations.RegisterNamesAreDistinct := by
  intro v v' t text text'
  obtain ⟨⟨space, index⟩, mapped, rfl⟩ := Option.map_eq_some_iff.1 text
  obtain ⟨⟨space', index'⟩, mapped', same⟩ := Option.map_eq_some_iff.1 text'
  obtain ⟨rfl, rfl⟩ := tag_decText_inj.1 same
  exact mapReg_injective mapped mapped'

end Sys2Proof.Machine
end

section
/-! The renderer (R134 to R151): the text of each shape, what it is cut to, what it reads, and the one
refusal. -/

namespace Sys2Proof.Machine

/-! ### The operands a shape stands for (R75) -/

theorem Slots.live_prefix (ops : Slots) : ops.live <+: ops.toList := List.takeWhile_prefix _

/-- The live operands are the slots below the arity, in their places. -/
theorem Slots.getElem_live (ops : Slots) (i : Fin 6) (h : i.val < ops.live.length) :
    ops.live[i.val] = ops.get i :=
  (ops.live_prefix.getElem h).trans (ops.getElem_toList i.isLt)

theorem Slots.mem_live_iff {ops : Slots} {o : Operand} :
    o ∈ ops.live ↔ ∃ i : Fin 6, i.val < ops.arity ∧ ops.get i = o := by
  rw [List.mem_iff_getElem]
  constructor
  · rintro ⟨i, below, rfl⟩
    have slot : i < 6 := below.trans_le ops.arity_le_six
    exact ⟨⟨i, slot⟩, below, (ops.getElem_live ⟨i, slot⟩ below).symm⟩
  · rintro ⟨i, below, rfl⟩
    exact ⟨i, below, ops.getElem_live i below⟩

/-- The first operands of a list are their types, paired in order with the values of the list. -/
theorem zipWith_type_value_of_prefix {l m : List Operand} (h : l <+: m) :
    List.zipWith Operand.mk (l.map Operand.type) (m.map Operand.value) = l := by
  obtain ⟨rest, rfl⟩ := h
  induction l with
  | nil => rfl
  | cons o l ih => simpa using ih

/-- The live operands have the types of the shape and the values of the first slots. -/
theorem Slots.live_eq_zipWith (ops : Slots) :
    ops.live = List.zipWith Operand.mk ops.shape [(ops.get 0).value, (ops.get 1).value,
      (ops.get 2).value, (ops.get 3).value, (ops.get 4).value, (ops.get 5).value] :=
  (zipWith_type_value_of_prefix ops.live_prefix).symm

/-- The shape and the values of its slots determine the live operands. -/
theorem Slots.live_congr {ops ops' : Slots} (shape : ops.shape = ops'.shape)
    (values : ∀ i : Fin 6, i.val < ops.arity → (ops.get i).value = (ops'.get i).value) :
    ops.live = ops'.live := by
  have arity : ops.arity = ops'.arity := by rw [← shape_length, shape, shape_length]
  refine List.ext_getElem arity fun i below below' => ?_
  have slot : i < 6 := below.trans_le ops.arity_le_six
  have types := ops.getElem?_shape (i := ⟨i, slot⟩) below
  rw [shape, ops'.getElem?_shape (i := ⟨i, slot⟩) below', Option.some_inj] at types
  rw [ops.getElem_live ⟨i, slot⟩ below, ops'.getElem_live ⟨i, slot⟩ below']
  calc ops.get ⟨i, slot⟩
      = ⟨(ops.get ⟨i, slot⟩).type, (ops.get ⟨i, slot⟩).value⟩ := rfl
    _ = ⟨(ops'.get ⟨i, slot⟩).type, (ops'.get ⟨i, slot⟩).value⟩ := by rw [← types, values _ below]

/-! ### A line, operand by operand (R135) -/

@[simp] theorem appendOperands_nil (a : Word) (line : String) : appendOperands a line [] = some line := rfl

theorem appendOperands_register {a v : Word} {line r : String} {rest : List Operand}
    (h : regText v = some r) :
    appendOperands a line (⟨.register, v⟩ :: rest) = appendOperands a (line ++ " " ++ r) rest := by
  simp [appendOperands, operandText, h]

@[simp] theorem appendOperands_immediate (a v : Word) (line : String) (rest : List Operand) :
    appendOperands a line (⟨.immediate, v⟩ :: rest) =
      appendOperands a (line ++ " " ++ immText v) rest := rfl

@[simp] theorem appendOperands_jumpDisplacement (a v : Word) (line : String) (rest : List Operand) :
    appendOperands a line (⟨.jumpDisplacement, v⟩ :: rest) =
      appendOperands a (line ++ " " ++ addrText (a + v)) rest := rfl

/-- A line reads the address in the texts of its operands only. -/
theorem appendOperands_congr {a a' : Word} {l : List Operand}
    (h : ∀ o ∈ l, operandText a o = operandText a' o) (line : String) :
    appendOperands a line l = appendOperands a' line l := by
  induction l generalizing line with
  | nil => rfl
  | cons o rest ih =>
    obtain ⟨first, others⟩ := List.forall_mem_cons.1 h
    simp only [appendOperands, first, ih others]

/-! ### The full text (R135, R146) -/

/-- A shape with a format line prints its operands after the mnemonic (R135). -/
theorem fullText_of_recognised (a : Word) {d : DecodedInstr} (h : d.ops.shape ∈ recognisedShapes) :
    fullText a d = appendOperands a d.mnemonic d.ops.live := if_pos h

/-- Any other shape prints the bare mnemonic (R146). -/
theorem fullText_of_unrecognised (a : Word) {d : DecodedInstr} (h : d.ops.shape ∉ recognisedShapes) :
    fullText a d = some d.mnemonic := if_neg h

/-- The line of a given shape: its types, with the values of the first slots (R135). -/
theorem fullText_of_shape (a : Word) {d : DecodedInstr} {types : List SemType}
    (shape : d.ops.shape = types) (h : types ∈ recognisedShapes) :
    fullText a d = appendOperands a d.mnemonic (List.zipWith Operand.mk types
      [(d.ops.get 0).value, (d.ops.get 1).value, (d.ops.get 2).value, (d.ops.get 3).value,
        (d.ops.get 4).value, (d.ops.get 5).value]) := by
  subst shape
  rw [fullText_of_recognised a h, ← Slots.live_eq_zipWith]

/-- Settles O28: the text is refused where an operand's is, and a live operand's is only for a register
above the register space. -/
theorem renderRefusesOnlyHighRegisters : Obligations.RenderRefusesOnlyHighRegisters := by
  intro n a d
  refine ⟨?_, fullText_of_unrecognised a⟩
  rw [render_eq_none_iff]
  by_cases h : d.ops.shape ∈ recognisedShapes
  · rw [fullText_of_recognised a h, appendOperands_eq_none_iff, iff_true_intro h, true_and]
    constructor
    · rintro ⟨o, live, refused⟩
      obtain ⟨i, below, rfl⟩ := Slots.mem_live_iff.1 live
      exact ⟨i, below, ((operandText_eq_none_iff a _).1 refused).resolve_left (Slots.mem_live live).2⟩
    · rintro ⟨i, below, high⟩
      exact ⟨_, Slots.mem_live_iff.2 ⟨i, below, rfl⟩, (operandText_eq_none_iff a _).2 (.inr high)⟩
  · simp [fullText_of_unrecognised a h, h]

/-- Settles O30: each line operand by operand, and each shape looked up in the table of kinds. -/
theorem textOfTheSourceShapes : Obligations.TextOfTheSourceShapes := by
  refine ⟨fun a d => ⟨fun shape r0 h0 => ?_, fun shape => ?_, fun shape => ?_,
    fun shape r0 h0 r1 h1 => ?_, fun shape r0 h0 => ?_, fun shape r0 h0 => ?_,
    fun shape r0 h0 r1 h1 r2 h2 => ?_, fun shape r0 h0 r1 h1 => ?_⟩, fun l k b => ?kinds⟩
  case kinds =>
    rw [shapeOfEachKind l k b]
    cases k
    case RRM | CLZ | LDST | RDISP | DISP => cases selectedBit l b <;> simp [shapeOfKind]
    all_goals simp [shapeOfKind]
  all_goals rw [fullText_of_shape a shape (by decide)]
  · simp [appendOperands_register h0]
  · simp
  · simp
  · simp [appendOperands_register h0, appendOperands_register h1]
  · simp [appendOperands_register h0]
  · simp [appendOperands_register h0]
  · simp [appendOperands_register h0, appendOperands_register h1, appendOperands_register h2]
  · simp [appendOperands_register h0, appendOperands_register h1]

/-- Settles O31: the two longer lines operand by operand; the kinds whose shape has no line are read off
the table of kinds. -/
theorem textOfTheLongShapesAndOfAnyOther : Obligations.TextOfTheLongShapesAndOfAnyOther := by
  refine ⟨fun a d => ⟨fun shape r2 h2 r3 h3 => ?four, fun shape r0 h0 r1 h1 => ?six,
    fullText_of_unrecognised a⟩, fun l k b => ?kinds⟩
  case four =>
    rw [fullText_of_shape a shape (by decide)]
    simp [appendOperands_register h2, appendOperands_register h3]
  case six =>
    rw [fullText_of_shape a shape (by decide)]
    simp [appendOperands_register h0, appendOperands_register h1]
  case kinds =>
    rw [shapeOfEachKind l k b]
    cases k
    case RRM | CLZ | LDST | RDISP | DISP =>
      cases selectedBit l b <;> simp [shapeOfKind, recognisedShapes]
    all_goals simp [shapeOfKind, recognisedShapes]

/-! ### The limit (R149) -/

theorem toList_truncText (t : String) (n : Nat) : (truncText t n).toList = t.toList.take (n - 1) :=
  String.toList_ofList

theorem length_truncText (t : String) (n : Nat) : (truncText t n).length = min (n - 1) t.length := by
  rw [← String.length_toList, toList_truncText, List.length_take, String.length_toList]

/-- A text that fits is not cut. -/
theorem truncText_of_length_le {t : String} {n : Nat} (h : t.length ≤ n - 1) : truncText t n = t := by
  rw [← String.toList_inj, toList_truncText, List.take_of_length_le (by rwa [String.length_toList])]

/-- Settles O29: the text is the first `n - 1` characters of the full text. -/
theorem textNeverExceedsTheLimit : Obligations.TextNeverExceedsTheLimit := by
  intro n a d t rendered
  obtain ⟨full, hfull, rfl⟩ := Option.map_eq_some_iff.1 rendered
  have length := length_truncText full n
  refine ⟨full, hfull, ?_, by omega, truncText_of_length_le, by omega⟩
  rw [toList_truncText]
  exact List.take_prefix _ _

/-! ### What the consumers read (R150, R151) -/

/-- Only a displacement's text reads the address (R150). -/
theorem operandText_congr_address {o : Operand} (h : o.type ≠ .jumpDisplacement) (a a' : Word) :
    operandText a o = operandText a' o := by
  obtain ⟨type, value⟩ := o
  cases type
  case jumpDisplacement => exact absurd rfl h
  all_goals rfl

/-- Of the shapes with a format line two hold a displacement (R138, R141). -/
theorem displacement_mem_recognised : ∀ types ∈ recognisedShapes, .jumpDisplacement ∈ types →
    types = [.jumpDisplacement] ∨ types = [.register, .jumpDisplacement] := by decide

/-- Settles O33: a line without a displacement does not read the address, and no other shape has a
target. -/
theorem addressReadOnlyForDisplacements : Obligations.AddressReadOnlyForDisplacements := by
  intro d n a a' notOne notTwo
  constructor
  · have text : fullText a d = fullText a' d := by
      by_cases h : d.ops.shape ∈ recognisedShapes
      · rw [fullText_of_recognised a h, fullText_of_recognised a' h]
        refine appendOperands_congr (fun o live => operandText_congr_address ?_ a a') d.mnemonic
        intro displacement
        have inShape : .jumpDisplacement ∈ d.ops.shape := displacement ▸ List.mem_map_of_mem live
        exact (displacement_mem_recognised _ h inShape).elim notOne notTwo
      · rw [fullText_of_unrecognised a h, fullText_of_unrecognised a' h]
    rw [render, render, text]
  · rw [Option.eq_none_iff_forall_ne_some]
    intro t target
    rcases resolveTarget_cases target with ⟨shape, -⟩ | ⟨shape, -⟩
    · exact notOne shape
    · exact notTwo shape

/-- The full text reads the mnemonic and the live operands (R151). -/
theorem fullText_congr {d d' : DecodedInstr} (mnemonic : d.mnemonic = d'.mnemonic)
    (live : d.ops.live = d'.ops.live) (a : Word) : fullText a d = fullText a d' := by
  have shape : d.ops.shape = d'.ops.shape := congrArg (List.map Operand.type) live
  rw [fullText, fullText, shape, mnemonic, live]

/-- The target reads the shape and the value of the displacement's slot (R122, R124). -/
theorem resolveTarget_congr {d d' : DecodedInstr} (shape : d.ops.shape = d'.ops.shape)
    (values : ∀ i : Fin 6, i.val < d.ops.arity → (d.ops.get i).value = (d'.ops.get i).value)
    (a : Word) : resolveTarget a d = resolveTarget a d' := by
  ext t
  rw [resolveTarget_eq_some_iff, resolveTarget_eq_some_iff, ← shape]
  refine or_congr (and_congr_right fun one => ?_) (and_congr_right fun two => ?_)
  · rw [values 0 (by rw [← Slots.shape_length, one]; decide)]
  · rw [values 1 (by rw [← Slots.shape_length, two]; decide)]

/-- Settles O34: the shape and its slots' values are the live operands, all that the text reads; the
target reads one of those values. -/
theorem consumersReadOnlyTheShapesSlots : Obligations.ConsumersReadOnlyTheShapesSlots := by
  intro d d' mnemonic shape values n a
  have text := fullText_congr mnemonic (Slots.live_congr shape values) a
  exact ⟨by rw [render, render, text], resolveTarget_congr shape values a⟩

end Sys2Proof.Machine
end

section
/-! The two errors of the block (R157, R160, R163): when the inputs are refused, what an error leaves at the
ports, and that a result of `decode` is never refused a text (R173). -/

namespace Sys2Proof.Machine

/-! ### Refused inputs (R157) -/

/-- Inputs fail validation for one of four causes (R112). -/
theorem not_inputsValid_iff {p : Params} {buf : Bool} {n : Nat} {v : Option String} {k : Bool} :
    ¬ inputsValid p buf n v k ↔
      buf = false ∨ n < 4 ∨ k = false ∨ ∃ w, v = some w ∧ w.length < p.variantMinLen := by
  simp only [inputsValid, not_and_or, not_forall, exists_prop, Bool.not_eq_true, not_le]

/-- `decode` answers `InvalidInput` where validation fails and nowhere else: past validation it answers
`ok` or `UnknownOpcode` (R157). -/
theorem decodeWith_eq_invalidInput_iff {compat : Applicability → Option String → Bool} {p : Params}
    {buf : Bool} {n : Nat} {b : Bytes4} {v : Option String} {k : Bool} :
    decodeWith compat p buf n b v k = .err .invalidInput ↔ ¬ inputsValid p buf n v k := by
  rw [← inputsOk_iff]
  rcases decodeWith_cases compat p buf n b v k with
    ⟨hi, hd⟩ | ⟨hi, -, hd⟩ | ⟨hi, -, e, -, hd⟩ | ⟨hi, -, -, hd⟩ <;> simp [hd, hi]

/-- Settles O12: `InvalidInput` is failed validation, and validation fails for the four causes. -/
theorem invalidInputExactly : Obligations.InvalidInputExactly := by
  intro compat p buf len b v sink
  rw [decodeWith_eq_invalidInput_iff, not_inputsValid_iff]

/-! ### Results of `decode` and their text (R173) -/

/-- Settles O27: a result of `decode` is well formed, and the mapper refuses no register of a
well-formed instruction. -/
theorem decodedInstructionsAlwaysRender : Obligations.DecodedInstructionsAlwaysRender := by
  intro compat p buf len b v sink d n a decoded
  exact render_of_wellFormed n a (decodeResultsAreWellFormed compat p buf len b v sink d decoded)

/-! ### A step that leaves an error (R160, R163, R165) -/

/-- A step leaves an error on the result port only for a decode request that `decode` answers with that
error: a consume request leaves the port idle (R160, R163). -/
theorem State.stepped_result_eq_err_iff {s : State} {e : DecodeError} :
    s.stepped.result = .driven (.err e) ↔ s.request = .decode ∧ s.decodeResult = .err e := by
  cases request : s.request with
  | consume d => simp [State.stepped_of_consume request]
  | decode => simp [State.stepped_of_decode request]

/-- Settles O39: an error on the result port is `decode`'s answer, and answering with an error changes
the output ports alone. -/
theorem errorsRecordNothing : Obligations.ErrorsRecordNothing := by
  intro s t e h error
  obtain rfl : t = s.stepped := (step_eq_next_iff s t).1 h
  obtain ⟨request, refused⟩ := State.stepped_result_eq_err_iff.1 error
  refine ⟨request, ?_⟩
  calc s.stepped = s.answer s.decodeResult := State.stepped_of_decode request
    _ = s.raise e := by rw [refused, State.answer_err]
    _ = s.afterErr e := s.raise_eq_afterErr e

end Sys2Proof.Machine
end

section
/-! Every step ends with a result on the ports of what was asked (R165, R186), and the machine after reset
meets the invariant (R107, R108, R176). -/

namespace Sys2Proof.Machine

/-! ### Liveness (R165, R186) -/

/-- A decode request is answered on the result port, with `ok` or an error. -/
theorem State.stepped_result_of_decode {s : State} (h : s.request = .decode) :
    s.stepped.result = .driven s.decodeResult := by
  rw [State.stepped_of_decode h, State.answer_result]

/-- Settles O36: the step goes to `State.stepped`, where a decode request finds its result and a consume
request its target, return-equivalence and text. -/
theorem everyStepCompletes : Obligations.EveryStepCompletes := by
  intro s
  refine ⟨s.stepped, step_eq_stepped s, ?decode, ?consume⟩
  case decode =>
    intro request
    exact ⟨s.decodeResult, State.stepped_result_of_decode request⟩
  case consume =>
    intro d request
    rw [State.stepped_of_consume request]
    exact ⟨⟨_, s.consume_target d⟩, ⟨_, s.consume_returnEquivalent d⟩, ⟨_, s.consume_text d⟩⟩

/-! ### Reset (R107, R108, R176) -/

/-- Parameters meet the spec when `e` of kind RRM is selected for 0x14, neither attested buffer is the
literal (R107 (c), R108), and `f` shares the literal's opcode byte but not its mnemonic (R107 (d)). -/
theorem paramsMeetSpec_of_entries {p : Params} {e f : CatalogEntry}
    (selected : scan p.compat.admits p.catalog none 0x14 = some e) (rule : e.rule = .RRM)
    (not03 : p.nopLiteral ≠ ⟨0x14, 0x01, 0x02, 0x03⟩) (not83 : p.nopLiteral ≠ ⟨0x14, 0x01, 0x02, 0x83⟩)
    (mem : f ∈ p.catalog) (opcode : f.opcode = p.nopLiteral.b0) (mnemonic : f.mnemonic ≠ p.nopMnemonic) :
    paramsMeetSpec p = true := by
  simp only [paramsMeetSpec, Bool.and_eq_true, Option.any_eq_true, List.any_eq_true, bne_iff_ne,
    beq_iff_eq]
  exact ⟨⟨⟨⟨e, selected, rule⟩, not03⟩, not83⟩, f, mem, opcode, mnemonic⟩

/-- The entry declared first is the one selected for its opcode byte when the check admits it (R105). -/
theorem scan_cons_self {compat : Applicability → Option String → Bool} {e : CatalogEntry}
    {v : Option String} (rest : List CatalogEntry) (admitted : compat e.app v = true) :
    scan compat (e :: rest) v e.opcode = some e :=
  scan_eq_some_iff.2 ⟨rfl, admitted, [], rest, rfl, by simp⟩

/-- Row 132 of the table, whose opcode byte is the no-op literal's at reset (R107 (d)). -/
def aseqEntry : CatalogEntry := ⟨0x70, .any, "aseq", .compare, .RRM⟩

theorem aseqEntry_mem_resetParams : aseqEntry ∈ resetParams.catalog := by decide

/-- The parameters at reset: the attested entry is declared first, and `aseq` shares its opcode byte
with the no-op literal. -/
theorem paramsMeetSpec_resetParams : paramsMeetSpec resetParams = true := by
  have selected : scan resetParams.compat.admits resetParams.catalog none 0x14 = some attestedEntry :=
    scan_cons_self referenceCatalog (Compat.admits_any _ none)
  exact paramsMeetSpec_of_entries selected rfl (by decide) (by decide) aseqEntry_mem_resetParams rfl
    (by decide)

/-- Idle ports agree: no result has been driven (R31, R176). -/
theorem State.portsAgree_of_idle {s : State} (h : s.result = .idle) : s.portsAgree := by
  rw [State.portsAgree, h]
  trivial

/-- Settles O42: the parameters meet the spec, and every output port is idle. -/
theorem resetMeetsTheInvariant : Obligations.ResetMeetsTheInvariant :=
  ⟨⟨paramsMeetSpec_resetParams, State.portsAgree_of_idle rfl⟩, rfl, rfl, rfl, rfl⟩

end Sys2Proof.Machine
end

section
/-! The operands of the rule kinds that rest on the spec's decisions (R82 to R98), and the answers of the
rows of the reference Catalog, family by family and kind by kind (R115, notes/assumptions/1.md). -/

namespace Sys2Proof.Machine

/-! ### The slots of the decided kinds (R82, R83, R86, R90, R92, R95 to R98) -/

/-- Settles O6: as O4; at the spec's layout the two narrow ranges are bits 3 to 2 and 1 to 0. -/
theorem specDecidedKinds : Obligations.SpecDecidedKinds := by
  intro l ops b0 b1 b2 b3
  and_intros <;> exact fillSlots_eq rfl

/-! ### The rows of the reference Catalog -/

/-- The instruction `i` is a row of the table with this mnemonic, class and rule kind, and `ops` and
`target` are what that kind gives for the row's word in the state `s`. -/
structure IsRowWith (s : State) (k : RuleKind) (i : Instr) (mnemonic : String) (cls : InstrClass)
    (ops : Slots) (target : Option Word) : Prop where
  entry : i.entry.map (fun e => (e.mnemonic, e.cls, e.rule)) = some (mnemonic, cls, k)
  slots : fillSlots s.params.layout k Slots.allUnused (encode s.params i) = ops
  resolves : targetOfKind k (selectedBit s.params.layout (encode s.params i)) s.currentAddress
    (sext18 (encode s.params i).b1 (encode s.params i).b3) = target

/-- Such a row answers with what the table and its kind say (R115, R124). -/
theorem IsRowWith.answers {s : State} {k : RuleKind} {i : Instr} {mnemonic : String} {cls : InstrClass}
    {ops : Slots} {target : Option Word} (row : IsRowWith s k i mnemonic cls ops target) :
    exec i s = .next (s.afterOk ⟨mnemonic, cls, ops⟩ target) := by
  obtain ⟨e, entry, fields⟩ := Option.map_eq_some_iff.1 row.entry
  obtain ⟨rfl, rfl, rfl⟩ : e.mnemonic = mnemonic ∧ e.cls = cls ∧ e.rule = k := by simpa using fields
  rw [exec_of_entry s entry, complete, State.deliver_eq_afterOk, resolveTarget_applyRule, applyRule,
    row.slots, row.resolves]

/-- A list of rows of kind `k` answers row by row. -/
theorem rows_answer (k : RuleKind) {rows : List (Instr × String × InstrClass)} {s : State}
    {ops : Instr × String × InstrClass → Slots} {target : Instr × String × InstrClass → Option Word}
    (table : rows.Forall fun r => IsRowWith s k r.1 r.2.1 r.2.2 (ops r) (target r)) :
    ∀ r ∈ rows, exec r.1 s = .next (s.afterOk ⟨r.2.1, r.2.2, ops r⟩ (target r)) :=
  fun r mem => (List.forall_iff_forall_mem.1 table r mem).answers

/-- Settles O52: the special-register rows have kinds of their own, and the accumulator rows read the
layout's two narrow ranges. -/
theorem constantAndMoveRowsAnswer : Obligations.ConstantAndMoveRowsAnswer := by
  intro b1 b2 b3 s
  refine ⟨rows_answer .RI16 ?_, rows_answer .ICALL ?_, rows_answer .RCRA ?_, rows_answer .RC_I2I2 ?_,
    rows_answer .RA_I2I2 ?_, rows_answer .MFSR ?_, rows_answer .MTSR ?_⟩
  all_goals and_intros <;> exact ⟨rfl, fillSlots_eq rfl, rfl⟩

/-- Settles O53: LDST has no displacement, so no target. -/
theorem loadStoreRowsAnswer : Obligations.LoadStoreRowsAnswer := by
  intro b1 b2 b3 s
  refine rows_answer .LDST ?_
  and_intros <;> exact ⟨rfl, fillSlots_eq rfl, rfl⟩

/-- Settles O54: one kind, whose third slot the selected bit types. -/
theorem addSubtractRowsAnswer : Obligations.AddSubtractRowsAnswer := by
  intro b1 b2 b3 s
  refine rows_answer .RRM ?_
  and_intros <;> exact ⟨rfl, fillSlots_eq rfl, rfl⟩

/-- Settles O55: the rows with a mode bit, then those of three registers. -/
theorem multiplyDivideRowsAnswer : Obligations.MultiplyDivideRowsAnswer := by
  intro b1 b2 b3 s
  refine ⟨rows_answer .RRM ?_, rows_answer .RRR ?_⟩
  all_goals and_intros <;> exact ⟨rfl, fillSlots_eq rfl, rfl⟩

/-- Settles O56: as O54. -/
theorem compareAndAssertRowsAnswer : Obligations.CompareAndAssertRowsAnswer := by
  intro b1 b2 b3 s
  refine rows_answer .RRM ?_
  and_intros <;> exact ⟨rfl, fillSlots_eq rfl, rfl⟩

/-- Settles O57: the two-source rows, then the counts and the sign-extending extract. -/
theorem logicAndShiftRowsAnswer : Obligations.LogicAndShiftRowsAnswer := by
  intro b1 b2 b3 s
  refine ⟨rows_answer .RRM ?_, rows_answer .CLZ ?_, rows_answer .RCRA ?_⟩
  all_goals and_intros <;> exact ⟨rfl, fillSlots_eq rfl, rfl⟩

/-- Settles O58: RDISP and DISP have a target, each for its own value of the selected bit; the indirect
rows have none. -/
theorem controlTransferRowsAnswer : Obligations.ControlTransferRowsAnswer := by
  intro b1 b2 b3 s
  refine ⟨rows_answer .RDISP ?_, rows_answer .DISP ?_, rows_answer .ICALL ?_, rows_answer .RB ?_⟩
  all_goals and_intros <;> exact ⟨rfl, fillSlots_eq rfl, rfl⟩

/-- Settles O59: rows of three registers, then rows without operands. -/
theorem systemRowsAnswer : Obligations.SystemRowsAnswer := by
  intro b1 b2 b3 s
  refine ⟨rows_answer .RRR ?_, rows_answer .NONE ?_⟩
  all_goals and_intros <;> exact ⟨rfl, fillSlots_eq rfl, rfl⟩

/-- Settles O60: no kind of these rows reads the mode bit. -/
theorem floatingPointRowsAnswer : Obligations.FloatingPointRowsAnswer := by
  intro b1 b2 b3 s
  refine ⟨rows_answer .RRR ?_, rows_answer .RRI2 ?_, rows_answer .CVT6 ?_, rows_answer .MAC ?_⟩
  all_goals and_intros <;> exact ⟨rfl, fillSlots_eq rfl, rfl⟩

end Sys2Proof.Machine
end
